-- ==== Sys2Proof/Word.lean ====
section
/-! DEFINITION. The word types of PRD: the byte (20_memory.md R35), the 16-bit command word (30_encoding.md R59) and the
32-bit response data (30_encoding.md R66). -/

namespace Sys2Proof

/-- The addressable unit, 8 bits (20_memory.md R35). -/
abbrev Byte := BitVec 8

/-- A command word `CMD[15:0]` (30_encoding.md R59). -/
abbrev CmdWord := BitVec 16

/-- The data part of a response, `RSP.data` (30_encoding.md R66). -/
abbrev RspData := BitVec 32

end Sys2Proof
end

