-- ==== Sys2Proof/Config.lean ====
section
/-! DEFINITION. The parameters of PRD (00_scope.md R6, R7), the check that admits them (R8) and the default set.
A `Config` is a parameter set together with the fact that it is admitted, so a refused set can never be run (R8). -/

namespace Sys2Proof

/-- The fifteen button names of 42_buttons.md R88. -/
inductive Button where
  | square | cross | circle | triangle
  | l1 | r1 | l2b | r2b | create | options | l3 | r3
  | home | tpclick | micbtn
  deriving DecidableEq, Repr

/-- The nine direction names of 42_buttons.md R89. -/
inductive Direction where
  | north | northEast | east | southEast | south | southWest | west | northWest | centered
  deriving DecidableEq, Repr

/-- The parameters the source leaves open (00_scope.md R7).
`CCAP` is not a field: its only legal value is the length of `CMB_STR`. -/
structure Params where
  /-- `DISC_USB` -/
  discUsb : Byte
  /-- `DISC_BT` -/
  discBt : Byte
  /-- `BTN_B1_OFF` -/
  btnB1Off : Nat
  /-- `OFF_GYRO` -/
  offGyro : Nat
  /-- `OFF_ACCEL` -/
  offAccel : Nat
  /-- `OFF_TS` -/
  offTs : Nat
  /-- `OFF_TOUCH` -/
  offTouch : Nat
  /-- `OFF_BATT` -/
  offBatt : Nat
  /-- `OFF_PERIPH` -/
  offPeriph : Nat
  /-- `CHG_HI` -/
  chgHi : Bool
  /-- `BTN_MAP`: the names of the flags with selects 0x0C, 0x0D, ..., 0x1A, in that order (42_buttons.md R88). -/
  btnMap : List Button
  /-- `DPAD_NAMES`: the names of the direction codes 0, 1, ..., 8, in that order (42_buttons.md R89). -/
  dpadNames : List Direction
  /-- `HAS_DIM` -/
  hasDim : Bool
  /-- `VID_STR` -/
  vidStr : List Byte
  /-- `PID_STR` -/
  pidStr : List Byte
  /-- `CMB_STR` -/
  cmbStr : List Byte
  deriving DecidableEq, Repr

/-- `REPORT_LEN` (00_scope.md R6). -/
def reportLen : Nat := 64
/-- `PAYLOAD_LEN` (00_scope.md R6). -/
def payloadLen : Nat := 63
/-- `OFF_SEQ` (00_scope.md R6). -/
def offSeq : Nat := 0
/-- `OFF_LEFT` (00_scope.md R6). -/
def offLeft : Nat := 1
/-- `OFF_RIGHT` (00_scope.md R6). -/
def offRight : Nat := 3
/-- `OFF_TRIG` (00_scope.md R6). -/
def offTrig : Nat := 5
/-- `OFF_BTN` (00_scope.md R6). -/
def offBtn : Nat := 7
/-- `OFF_CMAC` (00_scope.md R6). -/
def offCmac : Nat := 55

/-- `CCAP`, the capacity of the combined-string register: the length of `CMB_STR` (00_scope.md R7). -/
def Params.ccap (p : Params) : Nat := p.cmbStr.length

/-- The twelve field ranges of 00_scope.md R8, each a first offset and the offset after its last byte. -/
def Params.fieldRanges (p : Params) : List (Nat × Nat) :=
  [(offSeq, offSeq + 1), (offLeft, offLeft + 2), (offRight, offRight + 2), (offTrig, offTrig + 2),
   (offBtn, offBtn + 4),
   (p.offGyro, p.offGyro + 6), (p.offAccel, p.offAccel + 6), (p.offTs, p.offTs + 4),
   (p.offTouch, p.offTouch + 8), (p.offBatt, p.offBatt + 1), (p.offPeriph, p.offPeriph + 1),
   (offCmac, offCmac + 8)]

/-- Two half-open ranges share no offset. -/
def rangesDisjoint (a b : Nat × Nat) : Bool := decide (a.2 ≤ b.1) || decide (b.2 ≤ a.1)

/-- Every two ranges of the list are disjoint. -/
def pairwiseDisjoint : List (Nat × Nat) → Bool
  | [] => true
  | r :: rs => rs.all (rangesDisjoint r) && pairwiseDisjoint rs

/-- The discriminators are the two members of `DISC_SET`, one each (00_scope.md R8). -/
def Params.discsOK (p : Params) : Bool :=
  (p.discUsb == 0x01#8 && p.discBt == 0x31#8) || (p.discUsb == 0x31#8 && p.discBt == 0x01#8)

/-- `LayoutOK` (00_scope.md R8), clause by clause. -/
def Params.layoutOK (p : Params) : Bool :=
  p.fieldRanges.all (fun r => decide (r.2 ≤ payloadLen)) &&
  pairwiseDisjoint p.fieldRanges &&
  (p.btnB1Off == 7 || p.btnB1Off == 8) &&
  p.discsOK &&
  (p.fieldRanges.getLast?.map Prod.snd == some payloadLen)

/-- The legal values of `BTN_MAP` (00_scope.md R7, 42_buttons.md R88): in each region byte, the names of that byte's
group stand on its bits, in any order. -/
def Params.btnMapOK (p : Params) : Bool :=
  (p.btnMap.take 4).isPerm [.square, .cross, .circle, .triangle] &&
  ((p.btnMap.drop 4).take 8).isPerm [.l1, .r1, .l2b, .r2b, .create, .options, .l3, .r3] &&
  (p.btnMap.drop 12).isPerm [.home, .tpclick, .micbtn]

/-- The legal values of `DPAD_NAMES` (00_scope.md R7, 42_buttons.md R89): codes 0 to 7 name the eight directions, in any
order, and code 8 names "centered/none". -/
def Params.dpadNamesOK (p : Params) : Bool :=
  (p.dpadNames.take 8).isPerm
    [.north, .northEast, .east, .southEast, .south, .southWest, .west, .northWest] &&
  p.dpadNames.drop 8 == [.centered]

/-- An ASCII hexadecimal digit, of either letter case (46_matcher.md R137 fixes no case). -/
def isHexDigit (c : Byte) : Bool :=
  (decide (0x30 ≤ c.toNat) && decide (c.toNat ≤ 0x39)) ||
  (decide (0x41 ≤ c.toNat) && decide (c.toNat ≤ 0x46)) ||
  (decide (0x61 ≤ c.toNat) && decide (c.toNat ≤ 0x66))

/-- Exactly four hexadecimal digits: the form of `VID_STR` and `PID_STR` (46_matcher.md R137). -/
def isIdLiteral (t : List Byte) : Bool := t.length == 4 && t.all isHexDigit

/-- The form of `CMB_STR` (46_matcher.md R137): a bus code, one `:`, eight hexadecimal digits, eight hexadecimal digits.
DESIGN CHOICE (log 9): the bus code is any non-empty run of bytes other than `:`. -/
def isCombinedLiteral (t : List Byte) : Bool :=
  decide (18 ≤ t.length) &&
  (t.take (t.length - 17)).all (fun c => c != 0x3A#8) &&
  (t.drop (t.length - 17)).take 1 == [0x3A#8] &&
  (t.drop (t.length - 16)).all isHexDigit

/-- The three identity literals have the form 46_matcher.md R137 fixes. -/
def Params.literalsOK (p : Params) : Bool :=
  isIdLiteral p.vidStr && isIdLiteral p.pidStr && isCombinedLiteral p.cmbStr

/-- A parameter set the hardware may be built with: `LayoutOK` (00_scope.md R8) and the legal values of R7. -/
def Params.admitted (p : Params) : Bool :=
  p.layoutOK && p.btnMapOK && p.dpadNamesOK && p.literalsOK

/-- A configuration: an admitted parameter set.
There is no value of this type for a refused set, which is how R8 refuses it. -/
structure Config extends Params where
  /-- The set is admitted (00_scope.md R8). -/
  isAdmitted : toParams.admitted = true
  deriving DecidableEq, Repr

/-- Build a configuration, deciding `LayoutOK` and the legal values there and then, and refusing a set for which they
are false (00_scope.md R8). -/
def Config.build (p : Params) : Option Config :=
  if h : p.admitted = true then some ⟨p, h⟩ else none

/-- The default parameter set: the "Default" column of 00_scope.md R7, with the name tables of 42_buttons.md R88, R89 and
the literals of 46_matcher.md R137. -/
def Params.standard : Params where
  discUsb := 0x01#8
  discBt := 0x31#8
  btnB1Off := 8
  offGyro := 15
  offAccel := 21
  offTs := 27
  offTouch := 32
  offBatt := 52
  offPeriph := 53
  chgHi := true
  btnMap := [.square, .cross, .circle, .triangle, .l1, .r1, .l2b, .r2b, .create, .options, .l3, .r3,
    .home, .tpclick, .micbtn]
  dpadNames := [.north, .northEast, .east, .southEast, .south, .southWest, .west, .northWest, .centered]
  hasDim := true
  vidStr := [0x30#8, 0x35#8, 0x34#8, 0x63#8]
  pidStr := [0x30#8, 0x63#8, 0x65#8, 0x36#8]
  cmbStr := [0x30#8, 0x30#8, 0x30#8, 0x33#8, 0x3A#8,
    0x30#8, 0x30#8, 0x30#8, 0x30#8, 0x30#8, 0x35#8, 0x34#8, 0x43#8,
    0x30#8, 0x30#8, 0x30#8, 0x30#8, 0x30#8, 0x43#8, 0x45#8, 0x36#8]

/-- The configuration with every parameter at its default (00_scope.md R7). -/
def Config.standard : Config := ⟨Params.standard, by decide⟩

end Sys2Proof
end

