-- ==== Sys2Proof/Syntax.lean ====
section
/-! DEFINITION. The instructions of PRD: one constructor per row of spec/opcode_table.json (30_encoding.md R60, R62).
The operand byte of `PUSH`, `MVEN`, `MPRO` and `MCMB` is any byte (R61), so every term is an instruction. -/

namespace Sys2Proof

/-- A command of PRD (30_encoding.md R60), `RD f` split by its select code (R62). -/
inductive Instr where
  /-- `CLR` (40_control_ops.md R70). -/
  | clr
  /-- `PUSH b` (40_control_ops.md R71). -/
  | push (b : Byte)
  /-- `DEC` (40_control_ops.md R72). -/
  | dec
  /-- `STAT` (40_control_ops.md R73). -/
  | stat
  /-- `RD TRN` (41_scalar_fields.md R79). -/
  | rdTrn
  /-- `RD SEQ` (41_scalar_fields.md R80). -/
  | rdSeq
  /-- `RD LX` (41_scalar_fields.md R81). -/
  | rdLx
  /-- `RD LY` (41_scalar_fields.md R82). -/
  | rdLy
  /-- `RD RX` (41_scalar_fields.md R83). -/
  | rdRx
  /-- `RD RY` (41_scalar_fields.md R84). -/
  | rdRy
  /-- `RD TL` (41_scalar_fields.md R85). -/
  | rdTl
  /-- `RD TR` (41_scalar_fields.md R86). -/
  | rdTr
  /-- `RD DPAD` (42_buttons.md R90). -/
  | rdDpad
  /-- `RD DPADRAW` (42_buttons.md R91). -/
  | rdDpadraw
  /-- `RD SQUARE` (42_buttons.md R92). -/
  | rdSquare
  /-- `RD CROSS` (42_buttons.md R93). -/
  | rdCross
  /-- `RD CIRCLE` (42_buttons.md R94). -/
  | rdCircle
  /-- `RD TRIANGLE` (42_buttons.md R95). -/
  | rdTriangle
  /-- `RD L1` (42_buttons.md R96). -/
  | rdL1
  /-- `RD R1` (42_buttons.md R97). -/
  | rdR1
  /-- `RD L2B` (42_buttons.md R98). -/
  | rdL2b
  /-- `RD R2B` (42_buttons.md R99). -/
  | rdR2b
  /-- `RD CREATE` (42_buttons.md R100). -/
  | rdCreate
  /-- `RD OPTIONS` (42_buttons.md R101). -/
  | rdOptions
  /-- `RD L3` (42_buttons.md R102). -/
  | rdL3
  /-- `RD R3` (42_buttons.md R103). -/
  | rdR3
  /-- `RD HOME` (42_buttons.md R104). -/
  | rdHome
  /-- `RD TPCLICK` (42_buttons.md R105). -/
  | rdTpclick
  /-- `RD MICBTN` (42_buttons.md R106). -/
  | rdMicbtn
  /-- `RD GX` (43_motion.md R108). -/
  | rdGx
  /-- `RD GY` (43_motion.md R109). -/
  | rdGy
  /-- `RD GZ` (43_motion.md R110). -/
  | rdGz
  /-- `RD AX` (43_motion.md R111). -/
  | rdAx
  /-- `RD AY` (43_motion.md R112). -/
  | rdAy
  /-- `RD AZ` (43_motion.md R113). -/
  | rdAz
  /-- `RD TS` (43_motion.md R114). -/
  | rdTs
  /-- `RD T0ACT` (44_touchpad.md R117). -/
  | rdT0act
  /-- `RD T0CNT` (44_touchpad.md R118). -/
  | rdT0cnt
  /-- `RD T0X` (44_touchpad.md R119). -/
  | rdT0x
  /-- `RD T0Y` (44_touchpad.md R120). -/
  | rdT0y
  /-- `RD T1ACT` (44_touchpad.md R121). -/
  | rdT1act
  /-- `RD T1CNT` (44_touchpad.md R122). -/
  | rdT1cnt
  /-- `RD T1X` (44_touchpad.md R123). -/
  | rdT1x
  /-- `RD T1Y` (44_touchpad.md R124). -/
  | rdT1y
  /-- `RD BATT` (45_status.md R128). -/
  | rdBatt
  /-- `RD CHG` (45_status.md R130). -/
  | rdChg
  /-- `RD CHGRAW` (45_status.md R129). -/
  | rdChgraw
  /-- `RD CAP` (45_status.md R131). -/
  | rdCap
  /-- `RD PERIPH` (45_status.md R132). -/
  | rdPeriph
  /-- `RD CMAC0` (45_status.md R133). -/
  | rdCmac0
  /-- `RD CMAC1` (45_status.md R133). -/
  | rdCmac1
  /-- `RD CMAC2` (45_status.md R133). -/
  | rdCmac2
  /-- `RD CMAC3` (45_status.md R133). -/
  | rdCmac3
  /-- `RD CMAC4` (45_status.md R133). -/
  | rdCmac4
  /-- `RD CMAC5` (45_status.md R133). -/
  | rdCmac5
  /-- `RD CMAC6` (45_status.md R133). -/
  | rdCmac6
  /-- `RD CMAC7` (45_status.md R133). -/
  | rdCmac7
  /-- `RD RAW 0` (45_status.md R135). -/
  | rdRaw0
  /-- `RD RAW 1` (45_status.md R135). -/
  | rdRaw1
  /-- `RD RAW 2` (45_status.md R135). -/
  | rdRaw2
  /-- `RD RAW 3` (45_status.md R135). -/
  | rdRaw3
  /-- `RD RAW 4` (45_status.md R135). -/
  | rdRaw4
  /-- `RD RAW 5` (45_status.md R135). -/
  | rdRaw5
  /-- `RD RAW 6` (45_status.md R135). -/
  | rdRaw6
  /-- `RD RAW 7` (45_status.md R135). -/
  | rdRaw7
  /-- `RD RAW 8` (45_status.md R135). -/
  | rdRaw8
  /-- `RD RAW 9` (45_status.md R135). -/
  | rdRaw9
  /-- `RD RAW 10` (45_status.md R135). -/
  | rdRaw10
  /-- `RD RAW 11` (45_status.md R135). -/
  | rdRaw11
  /-- `RD RAW 12` (45_status.md R135). -/
  | rdRaw12
  /-- `RD RAW 13` (45_status.md R135). -/
  | rdRaw13
  /-- `RD RAW 14` (45_status.md R135). -/
  | rdRaw14
  /-- `RD RAW 15` (45_status.md R135). -/
  | rdRaw15
  /-- `RD RAW 16` (45_status.md R135). -/
  | rdRaw16
  /-- `RD RAW 17` (45_status.md R135). -/
  | rdRaw17
  /-- `RD RAW 18` (45_status.md R135). -/
  | rdRaw18
  /-- `RD RAW 19` (45_status.md R135). -/
  | rdRaw19
  /-- `RD RAW 20` (45_status.md R135). -/
  | rdRaw20
  /-- `RD RAW 21` (45_status.md R135). -/
  | rdRaw21
  /-- `RD RAW 22` (45_status.md R135). -/
  | rdRaw22
  /-- `RD RAW 23` (45_status.md R135). -/
  | rdRaw23
  /-- `RD RAW 24` (45_status.md R135). -/
  | rdRaw24
  /-- `RD RAW 25` (45_status.md R135). -/
  | rdRaw25
  /-- `RD RAW 26` (45_status.md R135). -/
  | rdRaw26
  /-- `RD RAW 27` (45_status.md R135). -/
  | rdRaw27
  /-- `RD RAW 28` (45_status.md R135). -/
  | rdRaw28
  /-- `RD RAW 29` (45_status.md R135). -/
  | rdRaw29
  /-- `RD RAW 30` (45_status.md R135). -/
  | rdRaw30
  /-- `RD RAW 31` (45_status.md R135). -/
  | rdRaw31
  /-- `RD RAW 32` (45_status.md R135). -/
  | rdRaw32
  /-- `RD RAW 33` (45_status.md R135). -/
  | rdRaw33
  /-- `RD RAW 34` (45_status.md R135). -/
  | rdRaw34
  /-- `RD RAW 35` (45_status.md R135). -/
  | rdRaw35
  /-- `RD RAW 36` (45_status.md R135). -/
  | rdRaw36
  /-- `RD RAW 37` (45_status.md R135). -/
  | rdRaw37
  /-- `RD RAW 38` (45_status.md R135). -/
  | rdRaw38
  /-- `RD RAW 39` (45_status.md R135). -/
  | rdRaw39
  /-- `RD RAW 40` (45_status.md R135). -/
  | rdRaw40
  /-- `RD RAW 41` (45_status.md R135). -/
  | rdRaw41
  /-- `RD RAW 42` (45_status.md R135). -/
  | rdRaw42
  /-- `RD RAW 43` (45_status.md R135). -/
  | rdRaw43
  /-- `RD RAW 44` (45_status.md R135). -/
  | rdRaw44
  /-- `RD RAW 45` (45_status.md R135). -/
  | rdRaw45
  /-- `RD RAW 46` (45_status.md R135). -/
  | rdRaw46
  /-- `RD RAW 47` (45_status.md R135). -/
  | rdRaw47
  /-- `RD RAW 48` (45_status.md R135). -/
  | rdRaw48
  /-- `RD RAW 49` (45_status.md R135). -/
  | rdRaw49
  /-- `RD RAW 50` (45_status.md R135). -/
  | rdRaw50
  /-- `RD RAW 51` (45_status.md R135). -/
  | rdRaw51
  /-- `RD RAW 52` (45_status.md R135). -/
  | rdRaw52
  /-- `RD RAW 53` (45_status.md R135). -/
  | rdRaw53
  /-- `RD RAW 54` (45_status.md R135). -/
  | rdRaw54
  /-- `RD RAW 55` (45_status.md R135). -/
  | rdRaw55
  /-- `RD RAW 56` (45_status.md R135). -/
  | rdRaw56
  /-- `RD RAW 57` (45_status.md R135). -/
  | rdRaw57
  /-- `RD RAW 58` (45_status.md R135). -/
  | rdRaw58
  /-- `RD RAW 59` (45_status.md R135). -/
  | rdRaw59
  /-- `RD RAW 60` (45_status.md R135). -/
  | rdRaw60
  /-- `RD RAW 61` (45_status.md R135). -/
  | rdRaw61
  /-- `RD RAW 62` (45_status.md R135). -/
  | rdRaw62
  /-- `MRST` (46_matcher.md R139). -/
  | mrst
  /-- `MCLS 0` (46_matcher.md R140). -/
  | mcls0
  /-- `MCLS 1` (46_matcher.md R140). -/
  | mcls1
  /-- `MCLS 2` (46_matcher.md R140). -/
  | mcls2
  /-- `MVEN c` (46_matcher.md R141). -/
  | mven (c : Byte)
  /-- `MPRO c` (46_matcher.md R142). -/
  | mpro (c : Byte)
  /-- `MCMB c` (46_matcher.md R143). -/
  | mcmb (c : Byte)
  /-- `MTEST` (46_matcher.md R144). -/
  | mtest
  /-- `MSTAT` (46_matcher.md R145). -/
  | mstat
  deriving DecidableEq, Repr

/-- The commands of the DIM unit, opcodes 0x10 to 0x16 (30_encoding.md R60). -/
def Instr.isDim : Instr → Bool
  | .clr => false
  | .push _ => false
  | .dec => false
  | .stat => false
  | .rdTrn => false
  | .rdSeq => false
  | .rdLx => false
  | .rdLy => false
  | .rdRx => false
  | .rdRy => false
  | .rdTl => false
  | .rdTr => false
  | .rdDpad => false
  | .rdDpadraw => false
  | .rdSquare => false
  | .rdCross => false
  | .rdCircle => false
  | .rdTriangle => false
  | .rdL1 => false
  | .rdR1 => false
  | .rdL2b => false
  | .rdR2b => false
  | .rdCreate => false
  | .rdOptions => false
  | .rdL3 => false
  | .rdR3 => false
  | .rdHome => false
  | .rdTpclick => false
  | .rdMicbtn => false
  | .rdGx => false
  | .rdGy => false
  | .rdGz => false
  | .rdAx => false
  | .rdAy => false
  | .rdAz => false
  | .rdTs => false
  | .rdT0act => false
  | .rdT0cnt => false
  | .rdT0x => false
  | .rdT0y => false
  | .rdT1act => false
  | .rdT1cnt => false
  | .rdT1x => false
  | .rdT1y => false
  | .rdBatt => false
  | .rdChg => false
  | .rdChgraw => false
  | .rdCap => false
  | .rdPeriph => false
  | .rdCmac0 => false
  | .rdCmac1 => false
  | .rdCmac2 => false
  | .rdCmac3 => false
  | .rdCmac4 => false
  | .rdCmac5 => false
  | .rdCmac6 => false
  | .rdCmac7 => false
  | .rdRaw0 => false
  | .rdRaw1 => false
  | .rdRaw2 => false
  | .rdRaw3 => false
  | .rdRaw4 => false
  | .rdRaw5 => false
  | .rdRaw6 => false
  | .rdRaw7 => false
  | .rdRaw8 => false
  | .rdRaw9 => false
  | .rdRaw10 => false
  | .rdRaw11 => false
  | .rdRaw12 => false
  | .rdRaw13 => false
  | .rdRaw14 => false
  | .rdRaw15 => false
  | .rdRaw16 => false
  | .rdRaw17 => false
  | .rdRaw18 => false
  | .rdRaw19 => false
  | .rdRaw20 => false
  | .rdRaw21 => false
  | .rdRaw22 => false
  | .rdRaw23 => false
  | .rdRaw24 => false
  | .rdRaw25 => false
  | .rdRaw26 => false
  | .rdRaw27 => false
  | .rdRaw28 => false
  | .rdRaw29 => false
  | .rdRaw30 => false
  | .rdRaw31 => false
  | .rdRaw32 => false
  | .rdRaw33 => false
  | .rdRaw34 => false
  | .rdRaw35 => false
  | .rdRaw36 => false
  | .rdRaw37 => false
  | .rdRaw38 => false
  | .rdRaw39 => false
  | .rdRaw40 => false
  | .rdRaw41 => false
  | .rdRaw42 => false
  | .rdRaw43 => false
  | .rdRaw44 => false
  | .rdRaw45 => false
  | .rdRaw46 => false
  | .rdRaw47 => false
  | .rdRaw48 => false
  | .rdRaw49 => false
  | .rdRaw50 => false
  | .rdRaw51 => false
  | .rdRaw52 => false
  | .rdRaw53 => false
  | .rdRaw54 => false
  | .rdRaw55 => false
  | .rdRaw56 => false
  | .rdRaw57 => false
  | .rdRaw58 => false
  | .rdRaw59 => false
  | .rdRaw60 => false
  | .rdRaw61 => false
  | .rdRaw62 => false
  | .mrst => true
  | .mcls0 => true
  | .mcls1 => true
  | .mcls2 => true
  | .mven _ => true
  | .mpro _ => true
  | .mcmb _ => true
  | .mtest => true
  | .mstat => true

/-- The accessors: the commands `RD f`, opcode 0x03 (30_encoding.md R60, R62). -/
def Instr.isRd : Instr → Bool
  | .clr => false
  | .push _ => false
  | .dec => false
  | .stat => false
  | .rdTrn => true
  | .rdSeq => true
  | .rdLx => true
  | .rdLy => true
  | .rdRx => true
  | .rdRy => true
  | .rdTl => true
  | .rdTr => true
  | .rdDpad => true
  | .rdDpadraw => true
  | .rdSquare => true
  | .rdCross => true
  | .rdCircle => true
  | .rdTriangle => true
  | .rdL1 => true
  | .rdR1 => true
  | .rdL2b => true
  | .rdR2b => true
  | .rdCreate => true
  | .rdOptions => true
  | .rdL3 => true
  | .rdR3 => true
  | .rdHome => true
  | .rdTpclick => true
  | .rdMicbtn => true
  | .rdGx => true
  | .rdGy => true
  | .rdGz => true
  | .rdAx => true
  | .rdAy => true
  | .rdAz => true
  | .rdTs => true
  | .rdT0act => true
  | .rdT0cnt => true
  | .rdT0x => true
  | .rdT0y => true
  | .rdT1act => true
  | .rdT1cnt => true
  | .rdT1x => true
  | .rdT1y => true
  | .rdBatt => true
  | .rdChg => true
  | .rdChgraw => true
  | .rdCap => true
  | .rdPeriph => true
  | .rdCmac0 => true
  | .rdCmac1 => true
  | .rdCmac2 => true
  | .rdCmac3 => true
  | .rdCmac4 => true
  | .rdCmac5 => true
  | .rdCmac6 => true
  | .rdCmac7 => true
  | .rdRaw0 => true
  | .rdRaw1 => true
  | .rdRaw2 => true
  | .rdRaw3 => true
  | .rdRaw4 => true
  | .rdRaw5 => true
  | .rdRaw6 => true
  | .rdRaw7 => true
  | .rdRaw8 => true
  | .rdRaw9 => true
  | .rdRaw10 => true
  | .rdRaw11 => true
  | .rdRaw12 => true
  | .rdRaw13 => true
  | .rdRaw14 => true
  | .rdRaw15 => true
  | .rdRaw16 => true
  | .rdRaw17 => true
  | .rdRaw18 => true
  | .rdRaw19 => true
  | .rdRaw20 => true
  | .rdRaw21 => true
  | .rdRaw22 => true
  | .rdRaw23 => true
  | .rdRaw24 => true
  | .rdRaw25 => true
  | .rdRaw26 => true
  | .rdRaw27 => true
  | .rdRaw28 => true
  | .rdRaw29 => true
  | .rdRaw30 => true
  | .rdRaw31 => true
  | .rdRaw32 => true
  | .rdRaw33 => true
  | .rdRaw34 => true
  | .rdRaw35 => true
  | .rdRaw36 => true
  | .rdRaw37 => true
  | .rdRaw38 => true
  | .rdRaw39 => true
  | .rdRaw40 => true
  | .rdRaw41 => true
  | .rdRaw42 => true
  | .rdRaw43 => true
  | .rdRaw44 => true
  | .rdRaw45 => true
  | .rdRaw46 => true
  | .rdRaw47 => true
  | .rdRaw48 => true
  | .rdRaw49 => true
  | .rdRaw50 => true
  | .rdRaw51 => true
  | .rdRaw52 => true
  | .rdRaw53 => true
  | .rdRaw54 => true
  | .rdRaw55 => true
  | .rdRaw56 => true
  | .rdRaw57 => true
  | .rdRaw58 => true
  | .rdRaw59 => true
  | .rdRaw60 => true
  | .rdRaw61 => true
  | .rdRaw62 => true
  | .mrst => false
  | .mcls0 => false
  | .mcls1 => false
  | .mcls2 => false
  | .mven _ => false
  | .mpro _ => false
  | .mcmb _ => false
  | .mtest => false
  | .mstat => false

end Sys2Proof
end

