-- ==== Sys2Proof/WellFormed.lean ====
section
/-! DEFINITION. Well-formed instructions. An operand is a whole byte, so the only thing an instruction can lack is the
unit it belongs to (30_encoding.md R63, 46_matcher.md R149). -/

namespace Sys2Proof

/-- The instruction belongs to a unit that this configuration has: the DIM commands are commands only when
`HAS_DIM = 1` (46_matcher.md R149). -/
def Instr.wellFormed (c : Config) (i : Instr) : Bool := !i.isDim || c.hasDim

end Sys2Proof
end

