-- ==== Sys2Proof/Decode.lean ====
section
/-! DEFINITION. The command word: its decoder (30_encoding.md R59 to R63), total on all 65536 words and rejecting a
reserved word by the kind of its reservation, and its encoder (R60). -/

namespace Sys2Proof

/-- Why a command word is reserved (30_encoding.md R63). -/
inductive Reserved where
  /-- The opcode byte is in no row of R60. -/
  | opcode
  /-- The operand byte breaks the constraint R60 puts on it. -/
  | operand
  /-- The select code of `RD` is in no row of R62. -/
  | select
  deriving DecidableEq, Repr

/-- `op = CMD[15:8]` (30_encoding.md R59). -/
def cmdOp (w : CmdWord) : Byte := w.extractLsb' 8 8

/-- `arg = CMD[7:0]` (30_encoding.md R59). -/
def cmdArg (w : CmdWord) : Byte := w.extractLsb' 0 8

/-- The word with opcode byte `op` and operand byte `arg`: `(op << 8) | arg` (30_encoding.md R60). -/
def cmdWord (op arg : Byte) : CmdWord := op ++ arg

/-- The accessor a select code names (30_encoding.md R62); every other code is reserved (R63). -/
def decodeSelect (f : Byte) : Except Reserved Instr :=
  match f with
  | 0x00#8 => .ok .rdTrn
  | 0x01#8 => .ok .rdSeq
  | 0x02#8 => .ok .rdLx
  | 0x03#8 => .ok .rdLy
  | 0x04#8 => .ok .rdRx
  | 0x05#8 => .ok .rdRy
  | 0x06#8 => .ok .rdTl
  | 0x07#8 => .ok .rdTr
  | 0x08#8 => .ok .rdDpad
  | 0x09#8 => .ok .rdDpadraw
  | 0x0C#8 => .ok .rdSquare
  | 0x0D#8 => .ok .rdCross
  | 0x0E#8 => .ok .rdCircle
  | 0x0F#8 => .ok .rdTriangle
  | 0x10#8 => .ok .rdL1
  | 0x11#8 => .ok .rdR1
  | 0x12#8 => .ok .rdL2b
  | 0x13#8 => .ok .rdR2b
  | 0x14#8 => .ok .rdCreate
  | 0x15#8 => .ok .rdOptions
  | 0x16#8 => .ok .rdL3
  | 0x17#8 => .ok .rdR3
  | 0x18#8 => .ok .rdHome
  | 0x19#8 => .ok .rdTpclick
  | 0x1A#8 => .ok .rdMicbtn
  | 0x20#8 => .ok .rdGx
  | 0x21#8 => .ok .rdGy
  | 0x22#8 => .ok .rdGz
  | 0x23#8 => .ok .rdAx
  | 0x24#8 => .ok .rdAy
  | 0x25#8 => .ok .rdAz
  | 0x26#8 => .ok .rdTs
  | 0x28#8 => .ok .rdT0act
  | 0x29#8 => .ok .rdT0cnt
  | 0x2A#8 => .ok .rdT0x
  | 0x2B#8 => .ok .rdT0y
  | 0x2C#8 => .ok .rdT1act
  | 0x2D#8 => .ok .rdT1cnt
  | 0x2E#8 => .ok .rdT1x
  | 0x2F#8 => .ok .rdT1y
  | 0x30#8 => .ok .rdBatt
  | 0x31#8 => .ok .rdChg
  | 0x32#8 => .ok .rdChgraw
  | 0x33#8 => .ok .rdCap
  | 0x34#8 => .ok .rdPeriph
  | 0x38#8 => .ok .rdCmac0
  | 0x39#8 => .ok .rdCmac1
  | 0x3A#8 => .ok .rdCmac2
  | 0x3B#8 => .ok .rdCmac3
  | 0x3C#8 => .ok .rdCmac4
  | 0x3D#8 => .ok .rdCmac5
  | 0x3E#8 => .ok .rdCmac6
  | 0x3F#8 => .ok .rdCmac7
  | 0x40#8 => .ok .rdRaw0
  | 0x41#8 => .ok .rdRaw1
  | 0x42#8 => .ok .rdRaw2
  | 0x43#8 => .ok .rdRaw3
  | 0x44#8 => .ok .rdRaw4
  | 0x45#8 => .ok .rdRaw5
  | 0x46#8 => .ok .rdRaw6
  | 0x47#8 => .ok .rdRaw7
  | 0x48#8 => .ok .rdRaw8
  | 0x49#8 => .ok .rdRaw9
  | 0x4A#8 => .ok .rdRaw10
  | 0x4B#8 => .ok .rdRaw11
  | 0x4C#8 => .ok .rdRaw12
  | 0x4D#8 => .ok .rdRaw13
  | 0x4E#8 => .ok .rdRaw14
  | 0x4F#8 => .ok .rdRaw15
  | 0x50#8 => .ok .rdRaw16
  | 0x51#8 => .ok .rdRaw17
  | 0x52#8 => .ok .rdRaw18
  | 0x53#8 => .ok .rdRaw19
  | 0x54#8 => .ok .rdRaw20
  | 0x55#8 => .ok .rdRaw21
  | 0x56#8 => .ok .rdRaw22
  | 0x57#8 => .ok .rdRaw23
  | 0x58#8 => .ok .rdRaw24
  | 0x59#8 => .ok .rdRaw25
  | 0x5A#8 => .ok .rdRaw26
  | 0x5B#8 => .ok .rdRaw27
  | 0x5C#8 => .ok .rdRaw28
  | 0x5D#8 => .ok .rdRaw29
  | 0x5E#8 => .ok .rdRaw30
  | 0x5F#8 => .ok .rdRaw31
  | 0x60#8 => .ok .rdRaw32
  | 0x61#8 => .ok .rdRaw33
  | 0x62#8 => .ok .rdRaw34
  | 0x63#8 => .ok .rdRaw35
  | 0x64#8 => .ok .rdRaw36
  | 0x65#8 => .ok .rdRaw37
  | 0x66#8 => .ok .rdRaw38
  | 0x67#8 => .ok .rdRaw39
  | 0x68#8 => .ok .rdRaw40
  | 0x69#8 => .ok .rdRaw41
  | 0x6A#8 => .ok .rdRaw42
  | 0x6B#8 => .ok .rdRaw43
  | 0x6C#8 => .ok .rdRaw44
  | 0x6D#8 => .ok .rdRaw45
  | 0x6E#8 => .ok .rdRaw46
  | 0x6F#8 => .ok .rdRaw47
  | 0x70#8 => .ok .rdRaw48
  | 0x71#8 => .ok .rdRaw49
  | 0x72#8 => .ok .rdRaw50
  | 0x73#8 => .ok .rdRaw51
  | 0x74#8 => .ok .rdRaw52
  | 0x75#8 => .ok .rdRaw53
  | 0x76#8 => .ok .rdRaw54
  | 0x77#8 => .ok .rdRaw55
  | 0x78#8 => .ok .rdRaw56
  | 0x79#8 => .ok .rdRaw57
  | 0x7A#8 => .ok .rdRaw58
  | 0x7B#8 => .ok .rdRaw59
  | 0x7C#8 => .ok .rdRaw60
  | 0x7D#8 => .ok .rdRaw61
  | 0x7E#8 => .ok .rdRaw62
  | _ => .error .select

/-- An instruction whose operand byte must be 0x00 (30_encoding.md R60, R63). -/
def decodeNoOperand (arg : Byte) (i : Instr) : Except Reserved Instr :=
  if arg = 0x00#8 then .ok i else .error .operand

/-- `MCLS k`: the class tags 0, 1 and 2; any other operand is reserved (30_encoding.md R60, R63). -/
def decodeClass (arg : Byte) : Except Reserved Instr :=
  match arg with
  | 0x00#8 => .ok .mcls0
  | 0x01#8 => .ok .mcls1
  | 0x02#8 => .ok .mcls2
  | _ => .error .operand

/-- The opcode map (30_encoding.md R60).
Whether the DIM unit exists is a parameter and no part of the word: the DIM commands themselves check it
(46_matcher.md R149; log 7). -/
def decode (w : CmdWord) : Except Reserved Instr :=
  match cmdOp w with
  | 0x00#8 => decodeNoOperand (cmdArg w) .clr
  | 0x01#8 => .ok (.push (cmdArg w))
  | 0x02#8 => decodeNoOperand (cmdArg w) .dec
  | 0x03#8 => decodeSelect (cmdArg w)
  | 0x04#8 => decodeNoOperand (cmdArg w) .stat
  | 0x10#8 => decodeNoOperand (cmdArg w) .mrst
  | 0x11#8 => decodeClass (cmdArg w)
  | 0x12#8 => .ok (.mven (cmdArg w))
  | 0x13#8 => .ok (.mpro (cmdArg w))
  | 0x14#8 => .ok (.mcmb (cmdArg w))
  | 0x15#8 => decodeNoOperand (cmdArg w) .mtest
  | 0x16#8 => decodeNoOperand (cmdArg w) .mstat
  | _ => .error .opcode

/-- The command word of an instruction (30_encoding.md R60, R62). -/
def encode : Instr → CmdWord
  | .clr => cmdWord 0x00#8 0x00#8
  | .push b => cmdWord 0x01#8 b
  | .dec => cmdWord 0x02#8 0x00#8
  | .stat => cmdWord 0x04#8 0x00#8
  | .rdTrn => cmdWord 0x03#8 0x00#8
  | .rdSeq => cmdWord 0x03#8 0x01#8
  | .rdLx => cmdWord 0x03#8 0x02#8
  | .rdLy => cmdWord 0x03#8 0x03#8
  | .rdRx => cmdWord 0x03#8 0x04#8
  | .rdRy => cmdWord 0x03#8 0x05#8
  | .rdTl => cmdWord 0x03#8 0x06#8
  | .rdTr => cmdWord 0x03#8 0x07#8
  | .rdDpad => cmdWord 0x03#8 0x08#8
  | .rdDpadraw => cmdWord 0x03#8 0x09#8
  | .rdSquare => cmdWord 0x03#8 0x0C#8
  | .rdCross => cmdWord 0x03#8 0x0D#8
  | .rdCircle => cmdWord 0x03#8 0x0E#8
  | .rdTriangle => cmdWord 0x03#8 0x0F#8
  | .rdL1 => cmdWord 0x03#8 0x10#8
  | .rdR1 => cmdWord 0x03#8 0x11#8
  | .rdL2b => cmdWord 0x03#8 0x12#8
  | .rdR2b => cmdWord 0x03#8 0x13#8
  | .rdCreate => cmdWord 0x03#8 0x14#8
  | .rdOptions => cmdWord 0x03#8 0x15#8
  | .rdL3 => cmdWord 0x03#8 0x16#8
  | .rdR3 => cmdWord 0x03#8 0x17#8
  | .rdHome => cmdWord 0x03#8 0x18#8
  | .rdTpclick => cmdWord 0x03#8 0x19#8
  | .rdMicbtn => cmdWord 0x03#8 0x1A#8
  | .rdGx => cmdWord 0x03#8 0x20#8
  | .rdGy => cmdWord 0x03#8 0x21#8
  | .rdGz => cmdWord 0x03#8 0x22#8
  | .rdAx => cmdWord 0x03#8 0x23#8
  | .rdAy => cmdWord 0x03#8 0x24#8
  | .rdAz => cmdWord 0x03#8 0x25#8
  | .rdTs => cmdWord 0x03#8 0x26#8
  | .rdT0act => cmdWord 0x03#8 0x28#8
  | .rdT0cnt => cmdWord 0x03#8 0x29#8
  | .rdT0x => cmdWord 0x03#8 0x2A#8
  | .rdT0y => cmdWord 0x03#8 0x2B#8
  | .rdT1act => cmdWord 0x03#8 0x2C#8
  | .rdT1cnt => cmdWord 0x03#8 0x2D#8
  | .rdT1x => cmdWord 0x03#8 0x2E#8
  | .rdT1y => cmdWord 0x03#8 0x2F#8
  | .rdBatt => cmdWord 0x03#8 0x30#8
  | .rdChg => cmdWord 0x03#8 0x31#8
  | .rdChgraw => cmdWord 0x03#8 0x32#8
  | .rdCap => cmdWord 0x03#8 0x33#8
  | .rdPeriph => cmdWord 0x03#8 0x34#8
  | .rdCmac0 => cmdWord 0x03#8 0x38#8
  | .rdCmac1 => cmdWord 0x03#8 0x39#8
  | .rdCmac2 => cmdWord 0x03#8 0x3A#8
  | .rdCmac3 => cmdWord 0x03#8 0x3B#8
  | .rdCmac4 => cmdWord 0x03#8 0x3C#8
  | .rdCmac5 => cmdWord 0x03#8 0x3D#8
  | .rdCmac6 => cmdWord 0x03#8 0x3E#8
  | .rdCmac7 => cmdWord 0x03#8 0x3F#8
  | .rdRaw0 => cmdWord 0x03#8 0x40#8
  | .rdRaw1 => cmdWord 0x03#8 0x41#8
  | .rdRaw2 => cmdWord 0x03#8 0x42#8
  | .rdRaw3 => cmdWord 0x03#8 0x43#8
  | .rdRaw4 => cmdWord 0x03#8 0x44#8
  | .rdRaw5 => cmdWord 0x03#8 0x45#8
  | .rdRaw6 => cmdWord 0x03#8 0x46#8
  | .rdRaw7 => cmdWord 0x03#8 0x47#8
  | .rdRaw8 => cmdWord 0x03#8 0x48#8
  | .rdRaw9 => cmdWord 0x03#8 0x49#8
  | .rdRaw10 => cmdWord 0x03#8 0x4A#8
  | .rdRaw11 => cmdWord 0x03#8 0x4B#8
  | .rdRaw12 => cmdWord 0x03#8 0x4C#8
  | .rdRaw13 => cmdWord 0x03#8 0x4D#8
  | .rdRaw14 => cmdWord 0x03#8 0x4E#8
  | .rdRaw15 => cmdWord 0x03#8 0x4F#8
  | .rdRaw16 => cmdWord 0x03#8 0x50#8
  | .rdRaw17 => cmdWord 0x03#8 0x51#8
  | .rdRaw18 => cmdWord 0x03#8 0x52#8
  | .rdRaw19 => cmdWord 0x03#8 0x53#8
  | .rdRaw20 => cmdWord 0x03#8 0x54#8
  | .rdRaw21 => cmdWord 0x03#8 0x55#8
  | .rdRaw22 => cmdWord 0x03#8 0x56#8
  | .rdRaw23 => cmdWord 0x03#8 0x57#8
  | .rdRaw24 => cmdWord 0x03#8 0x58#8
  | .rdRaw25 => cmdWord 0x03#8 0x59#8
  | .rdRaw26 => cmdWord 0x03#8 0x5A#8
  | .rdRaw27 => cmdWord 0x03#8 0x5B#8
  | .rdRaw28 => cmdWord 0x03#8 0x5C#8
  | .rdRaw29 => cmdWord 0x03#8 0x5D#8
  | .rdRaw30 => cmdWord 0x03#8 0x5E#8
  | .rdRaw31 => cmdWord 0x03#8 0x5F#8
  | .rdRaw32 => cmdWord 0x03#8 0x60#8
  | .rdRaw33 => cmdWord 0x03#8 0x61#8
  | .rdRaw34 => cmdWord 0x03#8 0x62#8
  | .rdRaw35 => cmdWord 0x03#8 0x63#8
  | .rdRaw36 => cmdWord 0x03#8 0x64#8
  | .rdRaw37 => cmdWord 0x03#8 0x65#8
  | .rdRaw38 => cmdWord 0x03#8 0x66#8
  | .rdRaw39 => cmdWord 0x03#8 0x67#8
  | .rdRaw40 => cmdWord 0x03#8 0x68#8
  | .rdRaw41 => cmdWord 0x03#8 0x69#8
  | .rdRaw42 => cmdWord 0x03#8 0x6A#8
  | .rdRaw43 => cmdWord 0x03#8 0x6B#8
  | .rdRaw44 => cmdWord 0x03#8 0x6C#8
  | .rdRaw45 => cmdWord 0x03#8 0x6D#8
  | .rdRaw46 => cmdWord 0x03#8 0x6E#8
  | .rdRaw47 => cmdWord 0x03#8 0x6F#8
  | .rdRaw48 => cmdWord 0x03#8 0x70#8
  | .rdRaw49 => cmdWord 0x03#8 0x71#8
  | .rdRaw50 => cmdWord 0x03#8 0x72#8
  | .rdRaw51 => cmdWord 0x03#8 0x73#8
  | .rdRaw52 => cmdWord 0x03#8 0x74#8
  | .rdRaw53 => cmdWord 0x03#8 0x75#8
  | .rdRaw54 => cmdWord 0x03#8 0x76#8
  | .rdRaw55 => cmdWord 0x03#8 0x77#8
  | .rdRaw56 => cmdWord 0x03#8 0x78#8
  | .rdRaw57 => cmdWord 0x03#8 0x79#8
  | .rdRaw58 => cmdWord 0x03#8 0x7A#8
  | .rdRaw59 => cmdWord 0x03#8 0x7B#8
  | .rdRaw60 => cmdWord 0x03#8 0x7C#8
  | .rdRaw61 => cmdWord 0x03#8 0x7D#8
  | .rdRaw62 => cmdWord 0x03#8 0x7E#8
  | .mrst => cmdWord 0x10#8 0x00#8
  | .mcls0 => cmdWord 0x11#8 0x00#8
  | .mcls1 => cmdWord 0x11#8 0x01#8
  | .mcls2 => cmdWord 0x11#8 0x02#8
  | .mven c => cmdWord 0x12#8 c
  | .mpro c => cmdWord 0x13#8 c
  | .mcmb c => cmdWord 0x14#8 c
  | .mtest => cmdWord 0x15#8 0x00#8
  | .mstat => cmdWord 0x16#8 0x00#8

/-- The host's question: which instruction the decoder reads from a word of `nbits` bits, bit 0 the least significant.
Every command has the one length of 16 bits (30_encoding.md R59), so bits above the sixteenth make no command. -/
def decodeTableWord (nbits w : Nat) : Option Instr :=
  if nbits ≤ 16 then (decode (BitVec.ofNat 16 (w % 2 ^ nbits))).toOption else none

end Sys2Proof
end

