-- ==== Sys2Proof/Machine/State.lean ====
section
/-! DEFINITION. The state of PRD as plain data (10_state.md R15 to R27), its response (30_encoding.md R66, R67), the
reasons a step can stop, and the state after reset (10_state.md R30). -/

namespace Sys2Proof.Machine

/-- `ReportTransport`, the values of the 1-bit register `TRN` (10_state.md R20). -/
inductive Transport where
  | usb | bluetooth
  deriving DecidableEq, Repr

/-- The values of the 2-bit register `RES` (10_state.md R19). -/
inductive Res where
  /-- 0: no `DEC` since the last `CLR`, `PUSH` or reset. -/
  | none
  /-- 1: the last `DEC` succeeded. -/
  | ok
  /-- 2: the last `DEC` failed with `Truncated`. -/
  | truncated
  /-- 3: the last `DEC` failed with `UnknownTransport(byte)`. -/
  | unknownTransport
  deriving DecidableEq, Repr

/-- The values of the 2-bit register `CLS`; the fourth is never held (10_state.md R24). -/
inductive DevClass where
  | other | input | hid
  deriving DecidableEq, Repr

/-- The response codes (30_encoding.md R67); codes 6 to 15 are never produced. -/
inductive RspCode where
  | ok | eTruncated | eUnknownTransport | fNotDecoded | fDpadInvariant | fIllegalCmd
  deriving DecidableEq, Repr

/-- A response `RSP = (code, data)` (30_encoding.md R66). -/
structure Response where
  code : RspCode
  data : RspData
  deriving DecidableEq, Repr

/-- Byte registers by index, as a list of (index, byte) cells in one canonical form: indices strictly rising and no cell
that holds what an unlisted index reads as (`Memory.wf` in Ops.lean). -/
abbrev Memory := List Host.Cell

/-- The state of PRD.
`cfg`, `cmds` and `rsp` are the model's own fields (10_state.md R28; log 1, 2, 3); the others are the spec's. -/
structure State where
  /-- The parameters, fixed when the hardware is built (10_state.md R28, R170). -/
  cfg : Config
  /-- The command words the host has presented and PRD has not yet taken, oldest first (20_memory.md R44). -/
  cmds : List CmdWord
  /-- The response of the step just made; `none` when it took no command (30_encoding.md R66). -/
  rsp : Option Response
  /-- `RB[0..63]`, the report buffer (10_state.md R16). -/
  rb : Memory
  /-- `LEN` (10_state.md R17). -/
  len : BitVec 7
  /-- `RES` (10_state.md R19). -/
  res : Res
  /-- `TRN` (10_state.md R20). -/
  trn : Transport
  /-- `ERRB` (10_state.md R21). -/
  errb : Byte
  /-- `CLS` (10_state.md R24). -/
  cls : DevClass
  /-- `VEN[0..3]` (10_state.md R25). -/
  ven : Memory
  /-- `VLEN` (10_state.md R25). -/
  vlen : BitVec 3
  /-- `PRO[0..3]` (10_state.md R25). -/
  pro : Memory
  /-- `PLEN` (10_state.md R25). -/
  plen : BitVec 3
  /-- `CMB[0..CCAP-1]` (10_state.md R25). -/
  cmb : Memory
  /-- `CLEN` (10_state.md R25); its width depends on `CCAP`, so it is a natural number here (log 8). -/
  clen : Nat
  /-- `CIDX` (10_state.md R26). -/
  cidx : BitVec 16
  /-- `MCNT` (10_state.md R26). -/
  mcnt : BitVec 16
  /-- `MLAST` (10_state.md R26). -/
  mlast : Bool
  deriving DecidableEq, Repr

/-- The reasons the machine stops with a fault: none.
PRD never stops (60_exceptions.md R152, R163; 93_implementation_defined.md U15), every access stays inside the buffer
(20_memory.md R42), and a condition is a response, not a stop. Safe: there is nothing for a step to raise. -/
inductive Fault where
  deriving DecidableEq, Repr

/-- The reasons an instruction has no meaning in the model. -/
inductive Refusal where
  /-- Raised by an arm of `exec` whose instruction is not modelled yet; no arm raises it. Safe: a refused instruction
  answers nothing that a claim could rest on. -/
  | notModelled (mnemonic : String)
  deriving DecidableEq, Repr

/-- The machine with configuration `c` right after reset (10_state.md R30, 70_reset_and_hazards.md R167, R168).
The byte registers are unspecified there: nothing is listed, DESIGN CHOICE (log 4, log 5). No command is waiting and no
response has been made, DESIGN CHOICE (log 1, log 2, log 11). -/
def State.resetWith (c : Config) : State where
  cfg := c
  cmds := []
  rsp := none
  rb := []
  len := 0#7
  res := .none
  trn := .usb
  errb := 0x00#8
  cls := .other
  ven := []
  vlen := 0#3
  pro := []
  plen := 0#3
  cmb := []
  clen := 0
  cidx := 0#16
  mcnt := 0#16
  mlast := false

/-- The machine right after reset, every parameter at its default (00_scope.md R7, 10_state.md R30). -/
def State.reset : State := State.resetWith Config.standard

end Sys2Proof.Machine
end

