-- ==== Sys2Proof/Machine/Ops.lean ====
section
/-! DEFINITION. The named operations over the byte registers, the response port, the report registers and the registers of
the DIM unit. Raising a condition is the one shared operation `State.raise` (60_exceptions.md R152). -/

namespace Sys2Proof.Machine

/-- What one step answers. -/
abbrev Answer := Host.Outcome State Fault Refusal

/-! ## Byte registers (20_memory.md R34, R35) -/

/-- What a byte register that nothing has written holds: unspecified by 10_state.md R30, DESIGN CHOICE 0x00 (log 4, 5). -/
def Memory.unlisted : Byte := 0x00#8

/-- Read one byte register. -/
def Memory.read : Memory → Nat → Byte
  | [], _ => Memory.unlisted
  | cell :: m, a => if cell.1 = a then cell.2 else Memory.read m a

/-- The cells without those of index `a`. -/
def Memory.erase : Memory → Nat → Memory
  | [], _ => []
  | cell :: m, a => if cell.1 = a then Memory.erase m a else cell :: Memory.erase m a

/-- Put the cell of index `a` in front of the first cell with a larger index. -/
def Memory.insert : Memory → Nat → Byte → Memory
  | [], a, v => [(a, v)]
  | cell :: m, a, v => if a < cell.1 then (a, v) :: cell :: m else cell :: Memory.insert m a v

/-- Write one byte register, keeping the canonical form: writing what an unlisted index reads as removes the cell. -/
def Memory.write (m : Memory) (a : Nat) (v : Byte) : Memory :=
  if v = Memory.unlisted then Memory.erase m a else Memory.insert (Memory.erase m a) a v

/-- The registers `0, 1, ..., n - 1` in order. -/
def Memory.bytes (m : Memory) (n : Nat) : List Byte := (List.range n).map m.read

/-- The cells from index `lo` up to but not including `hi` are in canonical form. -/
def Memory.wfFrom (lo hi : Nat) : Memory → Bool
  | [] => true
  | cell :: m =>
    decide (lo ≤ cell.1) && decide (cell.1 < hi) && cell.2 != Memory.unlisted &&
      Memory.wfFrom (cell.1 + 1) hi m

/-- The canonical form of `size` byte registers: indices strictly rising and below `size`, and no cell that holds what an
unlisted index reads as. -/
def Memory.wf (size : Nat) (m : Memory) : Bool := Memory.wfFrom 0 size m

/-! ## Register encodings -/

/-- `TRN` as its bit: Usb 0, Bluetooth 1 (10_state.md R20). -/
def Transport.bit : Transport → BitVec 1
  | .usb => 0#1
  | .bluetooth => 1#1

/-- `RES` as its two bits (10_state.md R19). -/
def Res.bits : Res → BitVec 2
  | .none => 0#2
  | .ok => 1#2
  | .truncated => 2#2
  | .unknownTransport => 3#2

/-- `CLS` as its two bits (10_state.md R24). -/
def DevClass.bits : DevClass → BitVec 2
  | .other => 0#2
  | .input => 1#2
  | .hid => 2#2

/-- `RSP.code` as its four bits (30_encoding.md R67). -/
def RspCode.bits : RspCode → BitVec 4
  | .ok => 0#4
  | .eTruncated => 1#4
  | .eUnknownTransport => 2#4
  | .fNotDecoded => 3#4
  | .fDpadInvariant => 4#4
  | .fIllegalCmd => 5#4

/-! ## The response port (30_encoding.md R66; 60_exceptions.md R152) -/

/-- The state with this response on the port. -/
def State.answer (s : State) (r : Response) : State := { s with rsp := some r }

/-- `respond(v)`: the command ends with code `OK` (00_scope.md R10). -/
def State.respond (s : State) (v : RspData) : Answer := .next (s.answer ⟨.ok, v⟩)

/-- `raise <Condition>(info)`: the command ends with the condition's code and data, keeping the state changes made before
it (00_scope.md R10, 60_exceptions.md R152). This is the whole of taking an exception: nothing else is saved, no mode
changes and control stays with the host (R161). There is no return from one (R162): the next command runs as usual. -/
def State.raise (s : State) (condition : RspCode) (info : RspData) : Answer :=
  .next (s.answer ⟨condition, info⟩)

/-- A reserved command word: `F_ILLEGAL_CMD` with the word as data and no state change (60_exceptions.md R157). -/
def State.illegalCommand (s : State) (w : CmdWord) : Answer :=
  s.raise .fIllegalCmd (w.setWidth 32)

/-! ## The command port (20_memory.md R44) -/

/-- The state after PRD has taken the oldest waiting command word, leaving `rest` (log 1). -/
def State.accept (s : State) (rest : List CmdWord) : State := { s with cmds := rest }

/-- A step with no command waiting: PRD "executes nothing on its own" and waits (70_reset_and_hazards.md R169), and makes
no response (log 2). -/
def State.idle (s : State) : State := { s with rsp := none }

/-! ## Report registers (10_state.md R16 to R21) -/

/-- Write the three result registers together. -/
def State.setResult (s : State) (res : Res) (trn : Transport) (errb : Byte) : State :=
  { s with res := res, trn := trn, errb := errb }

/-- The result registers as `CLR`, `PUSH` and reset leave them (10_state.md R19 to R21). -/
def State.clearResult (s : State) : State := s.setResult .none .usb 0x00#8

/-- `LEN <- 0` (40_control_ops.md R70). -/
def State.rewind (s : State) : State := { s with len := 0#7 }

/-- The buffer holds all 64 bytes of a report: not `LEN < 64` (10_state.md R17). -/
def State.full (s : State) : Bool := decide (reportLen ≤ s.len.toNat)

/-- `MemWrite(LEN, 1, b); LEN <- LEN + 1` while `LEN < 64`, else nothing (10_state.md R17, 40_control_ops.md R71). -/
def State.storeByte (s : State) (b : Byte) : State :=
  if s.full then s else { s with rb := s.rb.write s.len.toNat b, len := s.len + 1#7 }

/-- Dispatch common to every accessor (40_control_ops.md R74): unless `RES = OK` it raises `F_NOT_DECODED` with `RES` as
data; otherwise the accessor's own answer. -/
def State.whenDecoded (s : State) (accessor : Answer) : Answer :=
  if s.res = .ok then accessor else s.raise .fNotDecoded (s.res.bits.setWidth 32)

/-- An accessor that answers a value whenever a report is decoded (40_control_ops.md R74). -/
def State.readout (s : State) (v : RspData) : Answer := s.whenDecoded (s.respond v)

/-! ## DIM registers (10_state.md R24 to R26) -/

/-- A command of the DIM unit: where `HAS_DIM = 0` its word is reserved (46_matcher.md R149). -/
def State.whenDim (s : State) (w : CmdWord) (command : Answer) : Answer :=
  if s.cfg.hasDim then command else s.illegalCommand w

/-- The three string lengths at 0 and the class tag at `k` (46_matcher.md R140). The bytes are kept. -/
def State.beginRecord (s : State) (k : DevClass) : State :=
  { s with cls := k, vlen := 0#3, plen := 0#3, clen := 0 }

/-- The scan registers at 0 (46_matcher.md R139). -/
def State.clearScan (s : State) : State :=
  { s with cidx := 0#16, mcnt := 0#16, mlast := false }

/-- Append a byte to the vendor-ID string; a fifth byte marks it too long (46_matcher.md R141). -/
def State.appendVen (s : State) (c : Byte) : State :=
  if s.vlen.toNat < 4 then { s with ven := s.ven.write s.vlen.toNat c, vlen := s.vlen + 1#3 }
  else { s with vlen := 5#3 }

/-- Append a byte to the product-ID string; a fifth byte marks it too long (46_matcher.md R142). -/
def State.appendPro (s : State) (c : Byte) : State :=
  if s.plen.toNat < 4 then { s with pro := s.pro.write s.plen.toNat c, plen := s.plen + 1#3 }
  else { s with plen := 5#3 }

/-- Append a byte to the combined identity string; a byte past `CCAP` marks it too long (46_matcher.md R143). -/
def State.appendCmb (s : State) (c : Byte) : State :=
  if s.clen < s.cfg.ccap then { s with cmb := s.cmb.write s.clen c, clen := s.clen + 1 }
  else { s with clen := s.cfg.ccap + 1 }

/-- Add one to a 16-bit counter that stops at 0xFFFF (10_state.md R26). -/
def countUp (n : BitVec 16) : BitVec 16 := if n = 0xFFFF#16 then n else n + 1#16

/-- The scan registers after a test with result `m` (46_matcher.md R144). -/
def State.recordTest (s : State) (m : Bool) : State :=
  { s with mlast := m, mcnt := if m then countUp s.mcnt else s.mcnt, cidx := countUp s.cidx }

end Sys2Proof.Machine
end

