-- ==== Sys2Proof/Machine/Operands.lean ====
section
/-! DEFINITION. What the accessors read: payload bytes, bit fields, little-endian numbers and the fields of the report
(00_scope.md R9, R10; 30_encoding.md Part B). Every function here is pure (00_scope.md R11). -/

namespace Sys2Proof.Machine

/-! ## Bits and bytes (00_scope.md R9, R10; 30_encoding.md R58) -/

/-- `b & 0x0F` -/
def lowNibble (b : Byte) : BitVec 4 := b.extractLsb' 0 4

/-- `(b >> 4) & 0x0F` -/
def highNibble (b : Byte) : BitVec 4 := b.extractLsb' 4 4

/-- `b[n]` as one bit. -/
def flagBit (b : Byte) (n : Nat) : BitVec 1 := b.extractLsb' n 1

/-- The payload byte `P(k) = RB[k+1]` (00_scope.md R10). -/
def State.payload (s : State) (k : Nat) : Byte := s.rb.read (k + 1)

/-- `LE16(k)`: the byte at the lower offset is the least significant (20_memory.md R36). -/
def State.le16 (s : State) (k : Nat) : BitVec 16 :=
  (s.payload k).setWidth 16 ||| ((s.payload (k + 1)).setWidth 16 <<< 8)

/-- `LE32(k)` (20_memory.md R36). -/
def State.le32 (s : State) (k : Nat) : BitVec 32 :=
  (s.payload k).setWidth 32 ||| ((s.payload (k + 1)).setWidth 32 <<< 8) |||
    ((s.payload (k + 2)).setWidth 32 <<< 16) ||| ((s.payload (k + 3)).setWidth 32 <<< 24)

/-- `zext_32(v)` (30_encoding.md R64). -/
def zext32 {n : Nat} (v : BitVec n) : RspData := v.setWidth 32

/-- `sext_32(v)` (30_encoding.md R64). -/
def sext32 {n : Nat} (v : BitVec n) : RspData := v.signExtend 32

/-! ## The buttons region (42_buttons.md R87) -/

/-- Byte `j` of the buttons region, for `j` in 1, 2, 3: `P(BTN_B1_OFF + (j - 1))`. -/
def State.regionByte (s : State) (j : Nat) : Byte := s.payload (s.cfg.btnB1Off + (j - 1))

/-- The D-pad nibble: the low four bits of region byte 1 (42_buttons.md R90). -/
def State.dpadNibble (s : State) : BitVec 4 := lowNibble (s.regionByte 1)

/-- The flag at bit `n` of region byte `j` (42_buttons.md R88, R92 to R106). -/
def State.buttonFlag (s : State) (j n : Nat) : BitVec 1 := flagBit (s.regionByte j) n

/-! ## Motion (43_motion.md R107) -/

/-- Component `c` (x = 0, y = 1, z = 2) of the 16-bit triple at payload offset `o` (30_encoding.md R56). -/
def State.component (s : State) (o c : Nat) : BitVec 16 := s.le16 (o + 2 * c)

/-! ## The touchpad (44_touchpad.md R116) -/

/-- Byte `j` of touch point `n`: `P(OFF_TOUCH + 4n + j)`. -/
def State.touchByte (s : State) (n j : Nat) : Byte := s.payload (s.cfg.offTouch + 4 * n + j)

/-- `1 - tb0[7]`: the high bit set means inactive (44_touchpad.md R117). -/
def State.touchActive (s : State) (n : Nat) : BitVec 1 := ~~~ flagBit (s.touchByte n 0) 7

/-- `tb0 & 0x7F` (44_touchpad.md R118). -/
def State.touchCount (s : State) (n : Nat) : BitVec 7 := (s.touchByte n 0).extractLsb' 0 7

/-- `tb1 | ((tb2 & 0x0F) << 8)` (44_touchpad.md R119). -/
def State.touchX (s : State) (n : Nat) : BitVec 12 :=
  (s.touchByte n 1).setWidth 12 ||| ((lowNibble (s.touchByte n 2)).setWidth 12 <<< 8)

/-- `((tb2 >> 4) & 0x0F) | (tb3 << 4)` (44_touchpad.md R120). -/
def State.touchY (s : State) (n : Nat) : BitVec 12 :=
  (highNibble (s.touchByte n 2)).setWidth 12 ||| ((s.touchByte n 3).setWidth 12 <<< 4)

/-! ## Status bytes (45_status.md R127) -/

/-- The byte `battery_state`, `P(OFF_BATT)`. -/
def State.battery (s : State) : Byte := s.payload s.cfg.offBatt

/-- The charging code: the nibble of `battery_state` that `CHG_HI` selects (45_status.md R127). -/
def State.chargeCode (s : State) : BitVec 4 :=
  if s.cfg.chgHi then highNibble s.battery else lowNibble s.battery

/-- The capacity nibble: the other nibble of `battery_state` (45_status.md R127). -/
def State.capacity (s : State) : BitVec 4 :=
  if s.cfg.chgHi then lowNibble s.battery else highNibble s.battery

/-- Byte `i` of the authentication tag: `P(55 + i)` (45_status.md R133). -/
def State.cmacByte (s : State) (i : Nat) : Byte := s.payload (offCmac + i)

end Sys2Proof.Machine
end

