-- ==== Sys2Proof/Machine/Flags.lean ====
section
/-! DEFINITION. The status views and classifications. PRD has no arithmetic flags (10_state.md R32): what a host can test
is the status word (R23), the DIM status word (R27), the charging classification (45_status.md R130) and the match
predicate (46_matcher.md R138). -/

namespace Sys2Proof.Machine

/-- The status word (10_state.md R23): `LEN` in bits 6:0, `RES` in 9:8, `TRN` in 10, `ERRB` in 23:16, other bits 0. -/
def State.statusWord (s : State) : RspData :=
  0#8 ++ (s.errb ++ (0#5 ++ (s.trn.bit ++ (s.res.bits ++ (0#1 ++ s.len)))))

/-- The DIM status word (10_state.md R27): `MCNT` in bits 15:0, `CIDX` in bits 31:16. -/
def State.dimStatusWord (s : State) : RspData := s.cidx ++ s.mcnt

/-- The variants of the charging classification (45_status.md R130). -/
inductive ChargingStatus where
  | discharging | charging | full | voltageOrTemperatureOutOfRange | temperatureError | chargingError
  /-- Any other code, kept (R130). -/
  | unknown (code : BitVec 4)
  deriving DecidableEq, Repr

/-- Classify a charging code (45_status.md R130): six codes are recognised, every other is `Unknown`. -/
def classifyCharge (chg : BitVec 4) : ChargingStatus :=
  match chg with
  | 0x0#4 => .discharging
  | 0x1#4 => .charging
  | 0x2#4 => .full
  | 0xA#4 => .voltageOrTemperatureOutOfRange
  | 0xB#4 => .temperatureError
  | 0xF#4 => .chargingError
  | _ => .unknown chg

/-- The 5-bit result of `CHG` (45_status.md R130): the code itself, or `0x10 | code` for `Unknown`. -/
def ChargingStatus.bits : ChargingStatus → BitVec 5
  | .discharging => 0x00#5
  | .charging => 0x01#5
  | .full => 0x02#5
  | .voltageOrTemperatureOutOfRange => 0x0A#5
  | .temperatureError => 0x0B#5
  | .chargingError => 0x0F#5
  | .unknown code => 0x10#5 ||| code.setWidth 5

/-- `split` of 46_matcher.md R138: both ID strings equal their literals, in length and in every byte. -/
def State.splitMatches (s : State) : Bool :=
  decide (s.vlen.toNat = 4) && s.ven.bytes 4 == s.cfg.vidStr &&
    decide (s.plen.toNat = 4) && s.pro.bytes 4 == s.cfg.pidStr

/-- `comb` of 46_matcher.md R138. -/
def State.combinedMatches (s : State) : Bool :=
  decide (s.clen = s.cfg.ccap) && s.cmb.bytes s.cfg.ccap == s.cfg.cmbStr

/-- `cand` of 46_matcher.md R138: the record is tagged `INPUT` or `HID`. -/
def State.isCandidate (s : State) : Bool := s.cls == .input || s.cls == .hid

/-- `match` of 46_matcher.md R138. -/
def State.recordMatches (s : State) : Bool :=
  s.isCandidate && (s.splitMatches || s.combinedMatches)

/-- The data of `MTEST`: the record's index in bits 31:16 and the result in bit 0 (46_matcher.md R144). -/
def testWord (idx : BitVec 16) (m : Bool) : RspData := idx ++ (0#15 ++ BitVec.ofBool m)

end Sys2Proof.Machine
end

