-- ==== Sys2Proof/Machine/Buttons.lean ====
section
/-! DEFINITION. The buttons region: the D-pad and fifteen flags (42_buttons.md). -/

namespace Sys2Proof.Machine

/-- `RD DPAD` (42_buttons.md R90). -/
def execRdDpad (s : State) : Answer :=
  s.whenDecoded
    (if s.dpadNibble.toNat ≤ 8 then s.respond (zext32 s.dpadNibble)
     else s.raise .fDpadInvariant (zext32 s.dpadNibble))

/-- `RD DPADRAW` (42_buttons.md R91). -/
def execRdDpadraw (s : State) : Answer := s.readout (zext32 s.dpadNibble)

/-- `RD SQUARE` (42_buttons.md R92). -/
def execRdSquare (s : State) : Answer := s.readout (zext32 (s.buttonFlag 1 4))

/-- `RD CROSS` (42_buttons.md R93). -/
def execRdCross (s : State) : Answer := s.readout (zext32 (s.buttonFlag 1 5))

/-- `RD CIRCLE` (42_buttons.md R94). -/
def execRdCircle (s : State) : Answer := s.readout (zext32 (s.buttonFlag 1 6))

/-- `RD TRIANGLE` (42_buttons.md R95). -/
def execRdTriangle (s : State) : Answer := s.readout (zext32 (s.buttonFlag 1 7))

/-- `RD L1` (42_buttons.md R96). -/
def execRdL1 (s : State) : Answer := s.readout (zext32 (s.buttonFlag 2 0))

/-- `RD R1` (42_buttons.md R97). -/
def execRdR1 (s : State) : Answer := s.readout (zext32 (s.buttonFlag 2 1))

/-- `RD L2B` (42_buttons.md R98). -/
def execRdL2b (s : State) : Answer := s.readout (zext32 (s.buttonFlag 2 2))

/-- `RD R2B` (42_buttons.md R99). -/
def execRdR2b (s : State) : Answer := s.readout (zext32 (s.buttonFlag 2 3))

/-- `RD CREATE` (42_buttons.md R100). -/
def execRdCreate (s : State) : Answer := s.readout (zext32 (s.buttonFlag 2 4))

/-- `RD OPTIONS` (42_buttons.md R101). -/
def execRdOptions (s : State) : Answer := s.readout (zext32 (s.buttonFlag 2 5))

/-- `RD L3` (42_buttons.md R102). -/
def execRdL3 (s : State) : Answer := s.readout (zext32 (s.buttonFlag 2 6))

/-- `RD R3` (42_buttons.md R103). -/
def execRdR3 (s : State) : Answer := s.readout (zext32 (s.buttonFlag 2 7))

/-- `RD HOME` (42_buttons.md R104). -/
def execRdHome (s : State) : Answer := s.readout (zext32 (s.buttonFlag 3 0))

/-- `RD TPCLICK` (42_buttons.md R105). -/
def execRdTpclick (s : State) : Answer := s.readout (zext32 (s.buttonFlag 3 1))

/-- `RD MICBTN` (42_buttons.md R106). -/
def execRdMicbtn (s : State) : Answer := s.readout (zext32 (s.buttonFlag 3 2))

end Sys2Proof.Machine
end

