-- ==== Sys2Proof/Machine/Control.lean ====
section
/-! DEFINITION. The control commands `CLR`, `PUSH`, `DEC`, `STAT` (40_control_ops.md). The dispatch common to every `RD f` (R74)
is `State.whenDecoded` in Ops.lean. -/

namespace Sys2Proof.Machine

/-- `CLR` (40_control_ops.md R70). -/
def execClr (s : State) : Answer := s.rewind.clearResult.respond 0#32

/-- `PUSH b` (40_control_ops.md R71). -/
def execPush (b : Byte) (s : State) : Answer := (s.storeByte b).clearResult.respond 0#32

/-- `DEC` (40_control_ops.md R72). -/
def execDec (s : State) : Answer :=
  if s.full then
    if s.rb.read 0 = s.cfg.discUsb then (s.setResult .ok .usb 0x00#8).respond 0#32
    else if s.rb.read 0 = s.cfg.discBt then (s.setResult .ok .bluetooth 0x00#8).respond 1#32
    else (s.setResult .unknownTransport .usb (s.rb.read 0)).raise .eUnknownTransport (zext32 (s.rb.read 0))
  else (s.setResult .truncated .usb 0x00#8).raise .eTruncated (zext32 s.len)

/-- `STAT` (40_control_ops.md R73). -/
def execStat (s : State) : Answer := s.respond s.statusWord

end Sys2Proof.Machine
end

