-- ==== Sys2Proof/Machine/Matcher.lean ====
section
/-! DEFINITION. The device-identity matcher (46_matcher.md). With `HAS_DIM = 0` each of these words is reserved (R149), which is
`State.whenDim` in Ops.lean. -/

namespace Sys2Proof.Machine

/-- `MRST` (46_matcher.md R139). -/
def execMrst (s : State) : Answer := s.whenDim (encode .mrst) ((s.beginRecord .other).clearScan.respond 0#32)

/-- `MCLS 0` (46_matcher.md R140). -/
def execMcls0 (s : State) : Answer := s.whenDim (encode .mcls0) ((s.beginRecord .other).respond 0#32)

/-- `MCLS 1` (46_matcher.md R140). -/
def execMcls1 (s : State) : Answer := s.whenDim (encode .mcls1) ((s.beginRecord .input).respond 0#32)

/-- `MCLS 2` (46_matcher.md R140). -/
def execMcls2 (s : State) : Answer := s.whenDim (encode .mcls2) ((s.beginRecord .hid).respond 0#32)

/-- `MVEN c` (46_matcher.md R141). -/
def execMven (c : Byte) (s : State) : Answer := s.whenDim (encode (.mven c)) ((s.appendVen c).respond 0#32)

/-- `MPRO c` (46_matcher.md R142). -/
def execMpro (c : Byte) (s : State) : Answer := s.whenDim (encode (.mpro c)) ((s.appendPro c).respond 0#32)

/-- `MCMB c` (46_matcher.md R143). -/
def execMcmb (c : Byte) (s : State) : Answer := s.whenDim (encode (.mcmb c)) ((s.appendCmb c).respond 0#32)

/-- `MTEST` (46_matcher.md R144). -/
def execMtest (s : State) : Answer :=
  s.whenDim (encode .mtest) ((s.recordTest s.recordMatches).respond (testWord s.cidx s.recordMatches))

/-- `MSTAT` (46_matcher.md R145). -/
def execMstat (s : State) : Answer := s.whenDim (encode .mstat) (s.respond s.dimStatusWord)

end Sys2Proof.Machine
end

