-- ==== Sys2Proof/Machine/Motion.lean ====
section
/-! DEFINITION. Gyroscope, accelerometer and sensor timestamp (43_motion.md). -/

namespace Sys2Proof.Machine

/-- `RD GX` (43_motion.md R108). -/
def execRdGx (s : State) : Answer := s.readout (sext32 (s.component s.cfg.offGyro 0))

/-- `RD GY` (43_motion.md R109). -/
def execRdGy (s : State) : Answer := s.readout (sext32 (s.component s.cfg.offGyro 1))

/-- `RD GZ` (43_motion.md R110). -/
def execRdGz (s : State) : Answer := s.readout (sext32 (s.component s.cfg.offGyro 2))

/-- `RD AX` (43_motion.md R111). -/
def execRdAx (s : State) : Answer := s.readout (sext32 (s.component s.cfg.offAccel 0))

/-- `RD AY` (43_motion.md R112). -/
def execRdAy (s : State) : Answer := s.readout (sext32 (s.component s.cfg.offAccel 1))

/-- `RD AZ` (43_motion.md R113). -/
def execRdAz (s : State) : Answer := s.readout (sext32 (s.component s.cfg.offAccel 2))

/-- `RD TS` (43_motion.md R114). -/
def execRdTs (s : State) : Answer := s.readout (zext32 (s.le32 s.cfg.offTs))

end Sys2Proof.Machine
end

