-- ==== Sys2Proof/Machine/Scalar.lean ====
section
/-! DEFINITION. Transport, sequence number, sticks and triggers (41_scalar_fields.md). -/

namespace Sys2Proof.Machine

/-- `RD TRN` (41_scalar_fields.md R79). -/
def execRdTrn (s : State) : Answer := s.readout (zext32 s.trn.bit)

/-- `RD SEQ` (41_scalar_fields.md R80). -/
def execRdSeq (s : State) : Answer := s.readout (zext32 (s.payload offSeq))

/-- `RD LX` (41_scalar_fields.md R81). -/
def execRdLx (s : State) : Answer := s.readout (zext32 (s.payload offLeft))

/-- `RD LY` (41_scalar_fields.md R82). -/
def execRdLy (s : State) : Answer := s.readout (zext32 (s.payload (offLeft + 1)))

/-- `RD RX` (41_scalar_fields.md R83). -/
def execRdRx (s : State) : Answer := s.readout (zext32 (s.payload offRight))

/-- `RD RY` (41_scalar_fields.md R84). -/
def execRdRy (s : State) : Answer := s.readout (zext32 (s.payload (offRight + 1)))

/-- `RD TL` (41_scalar_fields.md R85). -/
def execRdTl (s : State) : Answer := s.readout (zext32 (s.payload offTrig))

/-- `RD TR` (41_scalar_fields.md R86). -/
def execRdTr (s : State) : Answer := s.readout (zext32 (s.payload (offTrig + 1)))

end Sys2Proof.Machine
end

