-- ==== Sys2Proof/Machine/Status.lean ====
section
/-! DEFINITION. Battery and peripheral status, the authentication tag and raw payload bytes (45_status.md). -/

namespace Sys2Proof.Machine

/-- `RD BATT` (45_status.md R128). -/
def execRdBatt (s : State) : Answer := s.readout (zext32 s.battery)

/-- `RD CHG` (45_status.md R130). -/
def execRdChg (s : State) : Answer := s.readout (zext32 (classifyCharge s.chargeCode).bits)

/-- `RD CHGRAW` (45_status.md R129). -/
def execRdChgraw (s : State) : Answer := s.readout (zext32 s.chargeCode)

/-- `RD CAP` (45_status.md R131). -/
def execRdCap (s : State) : Answer := s.readout (zext32 s.capacity)

/-- `RD PERIPH` (45_status.md R132). -/
def execRdPeriph (s : State) : Answer := s.readout (zext32 (s.payload s.cfg.offPeriph))

/-- `RD CMAC0` (45_status.md R133). -/
def execRdCmac0 (s : State) : Answer := s.readout (zext32 (s.cmacByte 0))

/-- `RD CMAC1` (45_status.md R133). -/
def execRdCmac1 (s : State) : Answer := s.readout (zext32 (s.cmacByte 1))

/-- `RD CMAC2` (45_status.md R133). -/
def execRdCmac2 (s : State) : Answer := s.readout (zext32 (s.cmacByte 2))

/-- `RD CMAC3` (45_status.md R133). -/
def execRdCmac3 (s : State) : Answer := s.readout (zext32 (s.cmacByte 3))

/-- `RD CMAC4` (45_status.md R133). -/
def execRdCmac4 (s : State) : Answer := s.readout (zext32 (s.cmacByte 4))

/-- `RD CMAC5` (45_status.md R133). -/
def execRdCmac5 (s : State) : Answer := s.readout (zext32 (s.cmacByte 5))

/-- `RD CMAC6` (45_status.md R133). -/
def execRdCmac6 (s : State) : Answer := s.readout (zext32 (s.cmacByte 6))

/-- `RD CMAC7` (45_status.md R133). -/
def execRdCmac7 (s : State) : Answer := s.readout (zext32 (s.cmacByte 7))

/-- `RD RAW 0` (45_status.md R135). -/
def execRdRaw0 (s : State) : Answer := s.readout (zext32 (s.payload 0))

/-- `RD RAW 1` (45_status.md R135). -/
def execRdRaw1 (s : State) : Answer := s.readout (zext32 (s.payload 1))

/-- `RD RAW 2` (45_status.md R135). -/
def execRdRaw2 (s : State) : Answer := s.readout (zext32 (s.payload 2))

/-- `RD RAW 3` (45_status.md R135). -/
def execRdRaw3 (s : State) : Answer := s.readout (zext32 (s.payload 3))

/-- `RD RAW 4` (45_status.md R135). -/
def execRdRaw4 (s : State) : Answer := s.readout (zext32 (s.payload 4))

/-- `RD RAW 5` (45_status.md R135). -/
def execRdRaw5 (s : State) : Answer := s.readout (zext32 (s.payload 5))

/-- `RD RAW 6` (45_status.md R135). -/
def execRdRaw6 (s : State) : Answer := s.readout (zext32 (s.payload 6))

/-- `RD RAW 7` (45_status.md R135). -/
def execRdRaw7 (s : State) : Answer := s.readout (zext32 (s.payload 7))

/-- `RD RAW 8` (45_status.md R135). -/
def execRdRaw8 (s : State) : Answer := s.readout (zext32 (s.payload 8))

/-- `RD RAW 9` (45_status.md R135). -/
def execRdRaw9 (s : State) : Answer := s.readout (zext32 (s.payload 9))

/-- `RD RAW 10` (45_status.md R135). -/
def execRdRaw10 (s : State) : Answer := s.readout (zext32 (s.payload 10))

/-- `RD RAW 11` (45_status.md R135). -/
def execRdRaw11 (s : State) : Answer := s.readout (zext32 (s.payload 11))

/-- `RD RAW 12` (45_status.md R135). -/
def execRdRaw12 (s : State) : Answer := s.readout (zext32 (s.payload 12))

/-- `RD RAW 13` (45_status.md R135). -/
def execRdRaw13 (s : State) : Answer := s.readout (zext32 (s.payload 13))

/-- `RD RAW 14` (45_status.md R135). -/
def execRdRaw14 (s : State) : Answer := s.readout (zext32 (s.payload 14))

/-- `RD RAW 15` (45_status.md R135). -/
def execRdRaw15 (s : State) : Answer := s.readout (zext32 (s.payload 15))

/-- `RD RAW 16` (45_status.md R135). -/
def execRdRaw16 (s : State) : Answer := s.readout (zext32 (s.payload 16))

/-- `RD RAW 17` (45_status.md R135). -/
def execRdRaw17 (s : State) : Answer := s.readout (zext32 (s.payload 17))

/-- `RD RAW 18` (45_status.md R135). -/
def execRdRaw18 (s : State) : Answer := s.readout (zext32 (s.payload 18))

/-- `RD RAW 19` (45_status.md R135). -/
def execRdRaw19 (s : State) : Answer := s.readout (zext32 (s.payload 19))

/-- `RD RAW 20` (45_status.md R135). -/
def execRdRaw20 (s : State) : Answer := s.readout (zext32 (s.payload 20))

/-- `RD RAW 21` (45_status.md R135). -/
def execRdRaw21 (s : State) : Answer := s.readout (zext32 (s.payload 21))

/-- `RD RAW 22` (45_status.md R135). -/
def execRdRaw22 (s : State) : Answer := s.readout (zext32 (s.payload 22))

/-- `RD RAW 23` (45_status.md R135). -/
def execRdRaw23 (s : State) : Answer := s.readout (zext32 (s.payload 23))

/-- `RD RAW 24` (45_status.md R135). -/
def execRdRaw24 (s : State) : Answer := s.readout (zext32 (s.payload 24))

/-- `RD RAW 25` (45_status.md R135). -/
def execRdRaw25 (s : State) : Answer := s.readout (zext32 (s.payload 25))

/-- `RD RAW 26` (45_status.md R135). -/
def execRdRaw26 (s : State) : Answer := s.readout (zext32 (s.payload 26))

/-- `RD RAW 27` (45_status.md R135). -/
def execRdRaw27 (s : State) : Answer := s.readout (zext32 (s.payload 27))

/-- `RD RAW 28` (45_status.md R135). -/
def execRdRaw28 (s : State) : Answer := s.readout (zext32 (s.payload 28))

/-- `RD RAW 29` (45_status.md R135). -/
def execRdRaw29 (s : State) : Answer := s.readout (zext32 (s.payload 29))

/-- `RD RAW 30` (45_status.md R135). -/
def execRdRaw30 (s : State) : Answer := s.readout (zext32 (s.payload 30))

/-- `RD RAW 31` (45_status.md R135). -/
def execRdRaw31 (s : State) : Answer := s.readout (zext32 (s.payload 31))

/-- `RD RAW 32` (45_status.md R135). -/
def execRdRaw32 (s : State) : Answer := s.readout (zext32 (s.payload 32))

/-- `RD RAW 33` (45_status.md R135). -/
def execRdRaw33 (s : State) : Answer := s.readout (zext32 (s.payload 33))

/-- `RD RAW 34` (45_status.md R135). -/
def execRdRaw34 (s : State) : Answer := s.readout (zext32 (s.payload 34))

/-- `RD RAW 35` (45_status.md R135). -/
def execRdRaw35 (s : State) : Answer := s.readout (zext32 (s.payload 35))

/-- `RD RAW 36` (45_status.md R135). -/
def execRdRaw36 (s : State) : Answer := s.readout (zext32 (s.payload 36))

/-- `RD RAW 37` (45_status.md R135). -/
def execRdRaw37 (s : State) : Answer := s.readout (zext32 (s.payload 37))

/-- `RD RAW 38` (45_status.md R135). -/
def execRdRaw38 (s : State) : Answer := s.readout (zext32 (s.payload 38))

/-- `RD RAW 39` (45_status.md R135). -/
def execRdRaw39 (s : State) : Answer := s.readout (zext32 (s.payload 39))

/-- `RD RAW 40` (45_status.md R135). -/
def execRdRaw40 (s : State) : Answer := s.readout (zext32 (s.payload 40))

/-- `RD RAW 41` (45_status.md R135). -/
def execRdRaw41 (s : State) : Answer := s.readout (zext32 (s.payload 41))

/-- `RD RAW 42` (45_status.md R135). -/
def execRdRaw42 (s : State) : Answer := s.readout (zext32 (s.payload 42))

/-- `RD RAW 43` (45_status.md R135). -/
def execRdRaw43 (s : State) : Answer := s.readout (zext32 (s.payload 43))

/-- `RD RAW 44` (45_status.md R135). -/
def execRdRaw44 (s : State) : Answer := s.readout (zext32 (s.payload 44))

/-- `RD RAW 45` (45_status.md R135). -/
def execRdRaw45 (s : State) : Answer := s.readout (zext32 (s.payload 45))

/-- `RD RAW 46` (45_status.md R135). -/
def execRdRaw46 (s : State) : Answer := s.readout (zext32 (s.payload 46))

/-- `RD RAW 47` (45_status.md R135). -/
def execRdRaw47 (s : State) : Answer := s.readout (zext32 (s.payload 47))

/-- `RD RAW 48` (45_status.md R135). -/
def execRdRaw48 (s : State) : Answer := s.readout (zext32 (s.payload 48))

/-- `RD RAW 49` (45_status.md R135). -/
def execRdRaw49 (s : State) : Answer := s.readout (zext32 (s.payload 49))

/-- `RD RAW 50` (45_status.md R135). -/
def execRdRaw50 (s : State) : Answer := s.readout (zext32 (s.payload 50))

/-- `RD RAW 51` (45_status.md R135). -/
def execRdRaw51 (s : State) : Answer := s.readout (zext32 (s.payload 51))

/-- `RD RAW 52` (45_status.md R135). -/
def execRdRaw52 (s : State) : Answer := s.readout (zext32 (s.payload 52))

/-- `RD RAW 53` (45_status.md R135). -/
def execRdRaw53 (s : State) : Answer := s.readout (zext32 (s.payload 53))

/-- `RD RAW 54` (45_status.md R135). -/
def execRdRaw54 (s : State) : Answer := s.readout (zext32 (s.payload 54))

/-- `RD RAW 55` (45_status.md R135). -/
def execRdRaw55 (s : State) : Answer := s.readout (zext32 (s.payload 55))

/-- `RD RAW 56` (45_status.md R135). -/
def execRdRaw56 (s : State) : Answer := s.readout (zext32 (s.payload 56))

/-- `RD RAW 57` (45_status.md R135). -/
def execRdRaw57 (s : State) : Answer := s.readout (zext32 (s.payload 57))

/-- `RD RAW 58` (45_status.md R135). -/
def execRdRaw58 (s : State) : Answer := s.readout (zext32 (s.payload 58))

/-- `RD RAW 59` (45_status.md R135). -/
def execRdRaw59 (s : State) : Answer := s.readout (zext32 (s.payload 59))

/-- `RD RAW 60` (45_status.md R135). -/
def execRdRaw60 (s : State) : Answer := s.readout (zext32 (s.payload 60))

/-- `RD RAW 61` (45_status.md R135). -/
def execRdRaw61 (s : State) : Answer := s.readout (zext32 (s.payload 61))

/-- `RD RAW 62` (45_status.md R135). -/
def execRdRaw62 (s : State) : Answer := s.readout (zext32 (s.payload 62))

end Sys2Proof.Machine
end

