-- ==== Sys2Proof/Machine/Touchpad.lean ====
section
/-! DEFINITION. The two touch points (44_touchpad.md). -/

namespace Sys2Proof.Machine

/-- `RD T0ACT` (44_touchpad.md R117). -/
def execRdT0act (s : State) : Answer := s.readout (zext32 (s.touchActive 0))

/-- `RD T0CNT` (44_touchpad.md R118). -/
def execRdT0cnt (s : State) : Answer := s.readout (zext32 (s.touchCount 0))

/-- `RD T0X` (44_touchpad.md R119). -/
def execRdT0x (s : State) : Answer := s.readout (zext32 (s.touchX 0))

/-- `RD T0Y` (44_touchpad.md R120). -/
def execRdT0y (s : State) : Answer := s.readout (zext32 (s.touchY 0))

/-- `RD T1ACT` (44_touchpad.md R121). -/
def execRdT1act (s : State) : Answer := s.readout (zext32 (s.touchActive 1))

/-- `RD T1CNT` (44_touchpad.md R122). -/
def execRdT1cnt (s : State) : Answer := s.readout (zext32 (s.touchCount 1))

/-- `RD T1X` (44_touchpad.md R123). -/
def execRdT1x (s : State) : Answer := s.readout (zext32 (s.touchX 1))

/-- `RD T1Y` (44_touchpad.md R124). -/
def execRdT1y (s : State) : Answer := s.readout (zext32 (s.touchY 1))

end Sys2Proof.Machine
end

