-- ==== Sys2Proof/Machine/Dispatch.lean ====
section
/-! DEFINITION. The dispatch: one arm per row of spec/opcode_table.json, each a direct call of the instruction's meaning. -/

namespace Sys2Proof.Machine

/-- One command (20_memory.md R44: one atomic step). -/
def exec (i : Instr) (s : State) : Host.Outcome State Fault Refusal :=
  match i with
  | .clr => Sys2Proof.Machine.execClr s
  | .push b => Sys2Proof.Machine.execPush b s
  | .dec => Sys2Proof.Machine.execDec s
  | .stat => Sys2Proof.Machine.execStat s
  | .rdTrn => Sys2Proof.Machine.execRdTrn s
  | .rdSeq => Sys2Proof.Machine.execRdSeq s
  | .rdLx => Sys2Proof.Machine.execRdLx s
  | .rdLy => Sys2Proof.Machine.execRdLy s
  | .rdRx => Sys2Proof.Machine.execRdRx s
  | .rdRy => Sys2Proof.Machine.execRdRy s
  | .rdTl => Sys2Proof.Machine.execRdTl s
  | .rdTr => Sys2Proof.Machine.execRdTr s
  | .rdDpad => Sys2Proof.Machine.execRdDpad s
  | .rdDpadraw => Sys2Proof.Machine.execRdDpadraw s
  | .rdSquare => Sys2Proof.Machine.execRdSquare s
  | .rdCross => Sys2Proof.Machine.execRdCross s
  | .rdCircle => Sys2Proof.Machine.execRdCircle s
  | .rdTriangle => Sys2Proof.Machine.execRdTriangle s
  | .rdL1 => Sys2Proof.Machine.execRdL1 s
  | .rdR1 => Sys2Proof.Machine.execRdR1 s
  | .rdL2b => Sys2Proof.Machine.execRdL2b s
  | .rdR2b => Sys2Proof.Machine.execRdR2b s
  | .rdCreate => Sys2Proof.Machine.execRdCreate s
  | .rdOptions => Sys2Proof.Machine.execRdOptions s
  | .rdL3 => Sys2Proof.Machine.execRdL3 s
  | .rdR3 => Sys2Proof.Machine.execRdR3 s
  | .rdHome => Sys2Proof.Machine.execRdHome s
  | .rdTpclick => Sys2Proof.Machine.execRdTpclick s
  | .rdMicbtn => Sys2Proof.Machine.execRdMicbtn s
  | .rdGx => Sys2Proof.Machine.execRdGx s
  | .rdGy => Sys2Proof.Machine.execRdGy s
  | .rdGz => Sys2Proof.Machine.execRdGz s
  | .rdAx => Sys2Proof.Machine.execRdAx s
  | .rdAy => Sys2Proof.Machine.execRdAy s
  | .rdAz => Sys2Proof.Machine.execRdAz s
  | .rdTs => Sys2Proof.Machine.execRdTs s
  | .rdT0act => Sys2Proof.Machine.execRdT0act s
  | .rdT0cnt => Sys2Proof.Machine.execRdT0cnt s
  | .rdT0x => Sys2Proof.Machine.execRdT0x s
  | .rdT0y => Sys2Proof.Machine.execRdT0y s
  | .rdT1act => Sys2Proof.Machine.execRdT1act s
  | .rdT1cnt => Sys2Proof.Machine.execRdT1cnt s
  | .rdT1x => Sys2Proof.Machine.execRdT1x s
  | .rdT1y => Sys2Proof.Machine.execRdT1y s
  | .rdBatt => Sys2Proof.Machine.execRdBatt s
  | .rdChg => Sys2Proof.Machine.execRdChg s
  | .rdChgraw => Sys2Proof.Machine.execRdChgraw s
  | .rdCap => Sys2Proof.Machine.execRdCap s
  | .rdPeriph => Sys2Proof.Machine.execRdPeriph s
  | .rdCmac0 => Sys2Proof.Machine.execRdCmac0 s
  | .rdCmac1 => Sys2Proof.Machine.execRdCmac1 s
  | .rdCmac2 => Sys2Proof.Machine.execRdCmac2 s
  | .rdCmac3 => Sys2Proof.Machine.execRdCmac3 s
  | .rdCmac4 => Sys2Proof.Machine.execRdCmac4 s
  | .rdCmac5 => Sys2Proof.Machine.execRdCmac5 s
  | .rdCmac6 => Sys2Proof.Machine.execRdCmac6 s
  | .rdCmac7 => Sys2Proof.Machine.execRdCmac7 s
  | .rdRaw0 => Sys2Proof.Machine.execRdRaw0 s
  | .rdRaw1 => Sys2Proof.Machine.execRdRaw1 s
  | .rdRaw2 => Sys2Proof.Machine.execRdRaw2 s
  | .rdRaw3 => Sys2Proof.Machine.execRdRaw3 s
  | .rdRaw4 => Sys2Proof.Machine.execRdRaw4 s
  | .rdRaw5 => Sys2Proof.Machine.execRdRaw5 s
  | .rdRaw6 => Sys2Proof.Machine.execRdRaw6 s
  | .rdRaw7 => Sys2Proof.Machine.execRdRaw7 s
  | .rdRaw8 => Sys2Proof.Machine.execRdRaw8 s
  | .rdRaw9 => Sys2Proof.Machine.execRdRaw9 s
  | .rdRaw10 => Sys2Proof.Machine.execRdRaw10 s
  | .rdRaw11 => Sys2Proof.Machine.execRdRaw11 s
  | .rdRaw12 => Sys2Proof.Machine.execRdRaw12 s
  | .rdRaw13 => Sys2Proof.Machine.execRdRaw13 s
  | .rdRaw14 => Sys2Proof.Machine.execRdRaw14 s
  | .rdRaw15 => Sys2Proof.Machine.execRdRaw15 s
  | .rdRaw16 => Sys2Proof.Machine.execRdRaw16 s
  | .rdRaw17 => Sys2Proof.Machine.execRdRaw17 s
  | .rdRaw18 => Sys2Proof.Machine.execRdRaw18 s
  | .rdRaw19 => Sys2Proof.Machine.execRdRaw19 s
  | .rdRaw20 => Sys2Proof.Machine.execRdRaw20 s
  | .rdRaw21 => Sys2Proof.Machine.execRdRaw21 s
  | .rdRaw22 => Sys2Proof.Machine.execRdRaw22 s
  | .rdRaw23 => Sys2Proof.Machine.execRdRaw23 s
  | .rdRaw24 => Sys2Proof.Machine.execRdRaw24 s
  | .rdRaw25 => Sys2Proof.Machine.execRdRaw25 s
  | .rdRaw26 => Sys2Proof.Machine.execRdRaw26 s
  | .rdRaw27 => Sys2Proof.Machine.execRdRaw27 s
  | .rdRaw28 => Sys2Proof.Machine.execRdRaw28 s
  | .rdRaw29 => Sys2Proof.Machine.execRdRaw29 s
  | .rdRaw30 => Sys2Proof.Machine.execRdRaw30 s
  | .rdRaw31 => Sys2Proof.Machine.execRdRaw31 s
  | .rdRaw32 => Sys2Proof.Machine.execRdRaw32 s
  | .rdRaw33 => Sys2Proof.Machine.execRdRaw33 s
  | .rdRaw34 => Sys2Proof.Machine.execRdRaw34 s
  | .rdRaw35 => Sys2Proof.Machine.execRdRaw35 s
  | .rdRaw36 => Sys2Proof.Machine.execRdRaw36 s
  | .rdRaw37 => Sys2Proof.Machine.execRdRaw37 s
  | .rdRaw38 => Sys2Proof.Machine.execRdRaw38 s
  | .rdRaw39 => Sys2Proof.Machine.execRdRaw39 s
  | .rdRaw40 => Sys2Proof.Machine.execRdRaw40 s
  | .rdRaw41 => Sys2Proof.Machine.execRdRaw41 s
  | .rdRaw42 => Sys2Proof.Machine.execRdRaw42 s
  | .rdRaw43 => Sys2Proof.Machine.execRdRaw43 s
  | .rdRaw44 => Sys2Proof.Machine.execRdRaw44 s
  | .rdRaw45 => Sys2Proof.Machine.execRdRaw45 s
  | .rdRaw46 => Sys2Proof.Machine.execRdRaw46 s
  | .rdRaw47 => Sys2Proof.Machine.execRdRaw47 s
  | .rdRaw48 => Sys2Proof.Machine.execRdRaw48 s
  | .rdRaw49 => Sys2Proof.Machine.execRdRaw49 s
  | .rdRaw50 => Sys2Proof.Machine.execRdRaw50 s
  | .rdRaw51 => Sys2Proof.Machine.execRdRaw51 s
  | .rdRaw52 => Sys2Proof.Machine.execRdRaw52 s
  | .rdRaw53 => Sys2Proof.Machine.execRdRaw53 s
  | .rdRaw54 => Sys2Proof.Machine.execRdRaw54 s
  | .rdRaw55 => Sys2Proof.Machine.execRdRaw55 s
  | .rdRaw56 => Sys2Proof.Machine.execRdRaw56 s
  | .rdRaw57 => Sys2Proof.Machine.execRdRaw57 s
  | .rdRaw58 => Sys2Proof.Machine.execRdRaw58 s
  | .rdRaw59 => Sys2Proof.Machine.execRdRaw59 s
  | .rdRaw60 => Sys2Proof.Machine.execRdRaw60 s
  | .rdRaw61 => Sys2Proof.Machine.execRdRaw61 s
  | .rdRaw62 => Sys2Proof.Machine.execRdRaw62 s
  | .mrst => Sys2Proof.Machine.execMrst s
  | .mcls0 => Sys2Proof.Machine.execMcls0 s
  | .mcls1 => Sys2Proof.Machine.execMcls1 s
  | .mcls2 => Sys2Proof.Machine.execMcls2 s
  | .mven c => Sys2Proof.Machine.execMven c s
  | .mpro c => Sys2Proof.Machine.execMpro c s
  | .mcmb c => Sys2Proof.Machine.execMcmb c s
  | .mtest => Sys2Proof.Machine.execMtest s
  | .mstat => Sys2Proof.Machine.execMstat s

end Sys2Proof.Machine
end

