-- ==== Sys2Proof/Machine/Step.lean ====
section
/-! DEFINITION. One step: PRD takes the oldest waiting command word and executes it (20_memory.md R44), or waits when there
is none (70_reset_and_hazards.md R169). -/

namespace Sys2Proof.Machine

/-- One step of PRD. A word that decodes is executed; a reserved word is answered with `F_ILLEGAL_CMD`
(60_exceptions.md R157). -/
def step (s : State) : Host.Outcome State Fault Refusal :=
  match s.cmds with
  | [] => .next s.idle
  | w :: rest =>
    match decode w with
    | .ok i => exec i (s.accept rest)
    | .error _ => (s.accept rest).illegalCommand w

/-- The state in which the next step takes this command word: the word in the place of the oldest waiting one.
It stands for the host presenting the word at the command port (log 1). -/
def State.withFetchWord (s : State) (nbits w : Nat) : State :=
  { s with cmds := BitVec.ofNat 16 (w % 2 ^ nbits) :: s.cmds.tail }

end Sys2Proof.Machine
end

