-- ==== Sys2Proof/Machine/Views.lean ====
section
/-! DEFINITION. What a host reads off the state and the responses, none of it stored: the phase (10_state.md R22), the
named buttons and directions (42_buttons.md R88, R89), and the pseudo-instructions of 30_encoding.md R69. -/

namespace Sys2Proof.Machine

/-! ## The phase (10_state.md R22) -/

/-- The phase of a decode (10_state.md R22). -/
inductive Phase where
  | empty | loading | decoded | failed
  deriving DecidableEq, Repr

/-- The phase that `LEN` and `RES` define (10_state.md R22). -/
def State.phase (s : State) : Phase :=
  match s.res with
  | .none => if s.len = 0#7 then .empty else .loading
  | .ok => .decoded
  | .truncated => .failed
  | .unknownTransport => .failed

/-! ## Names (42_buttons.md R88, R89) -/

/-- Region byte and bit of the `p`-th flag, counted in the order of the select codes 0x0C to 0x1A
(42_buttons.md R88). -/
def flagPosition (p : Nat) : Nat × Nat :=
  if p < 4 then (1, p + 4) else if p < 12 then (2, p - 4) else (3, p - 12)

/-- The position `BTN_MAP` gives a button (42_buttons.md R88). -/
def buttonPosition (c : Config) (b : Button) : Nat := c.btnMap.idxOf b

/-- The select code that reads a button under `BTN_MAP` (30_encoding.md R62, 42_buttons.md R88). -/
def buttonSelect (c : Config) (b : Button) : Byte := BitVec.ofNat 8 (0x0C + buttonPosition c b)

/-- A button is pressed: its flag is 1 (42_buttons.md R88). -/
def State.pressed (s : State) (b : Button) : Bool :=
  s.buttonFlag (flagPosition (buttonPosition s.cfg b)).1 (flagPosition (buttonPosition s.cfg b)).2 == 1#1

/-- The name `DPAD_NAMES` gives a direction code; codes above 8 have none (42_buttons.md R89, R90). -/
def directionName (c : Config) (code : BitVec 4) : Option Direction := c.dpadNames[code.toNat]?

/-! ## Pseudo-instructions (30_encoding.md R69) -/

/-- `LOAD b0 b1 ...` -/
def loadProgram (bs : List Byte) : List Instr := .clr :: bs.map .push

/-- `DECODE b0 b1 ...`, the source's `decode(buffer)`. -/
def decodeProgram (bs : List Byte) : List Instr := loadProgram bs ++ [.dec]

/-- `MCLS k` for a class tag (46_matcher.md R140). -/
def DevClass.mcls : DevClass → Instr
  | .other => .mcls0
  | .input => .mcls1
  | .hid => .mcls2

/-- `MCAND k, "v", "p", "c"`: one candidate record and its test. An absent property is the empty list. -/
def candidateProgram (k : DevClass) (v p c : List Byte) : List Instr :=
  k.mcls :: (v.map .mven ++ p.map .mpro ++ c.map .mcmb ++ [.mtest])

/-! ## Running commands -/

/-- The host presents more command words, after those already waiting (20_memory.md R44). -/
def State.present (s : State) (ws : List CmdWord) : State := { s with cmds := s.cmds ++ ws }

/-- The state after the commands of a list, in order; nothing if one of them gives no next state. -/
def runCommands : List Instr → State → Option State
  | [], s => some s
  | i :: is, s =>
    match exec i s with
    | .next t => runCommands is t
    | .fault _ => none
    | .refused _ => none

/-- The responses of the commands of a list, in order (30_encoding.md R66). -/
def repliesOf : List Instr → State → List (Option Response)
  | [], _ => []
  | i :: is, s =>
    match exec i s with
    | .next t => t.rsp :: repliesOf is t
    | .fault _ => []
    | .refused _ => []

end Sys2Proof.Machine
end

