-- ==== Sys2Proof/Safety.lean ====
section
/-! DEFINITION. What a good state of PRD is, and the parts of the state that claims compare. -/

namespace Sys2Proof.Machine

/-- What every reachable state satisfies: the ranges of 10_state.md R17, R25, the facts of R19 to R22 about the result
registers, the counters of R26, and the canonical form of the byte registers. -/
structure State.Sound (s : State) : Prop where
  /-- The buffer is in canonical form and has 64 registers (R16). -/
  rb_wf : s.rb.wf reportLen = true
  /-- `VEN` is in canonical form and has 4 registers (R25). -/
  ven_wf : s.ven.wf 4 = true
  /-- `PRO` is in canonical form and has 4 registers (R25). -/
  pro_wf : s.pro.wf 4 = true
  /-- `CMB` is in canonical form and has `CCAP` registers (R25). -/
  cmb_wf : s.cmb.wf s.cfg.ccap = true
  /-- "Values 65..127 are never held" (R17). -/
  len_le : s.len.toNat ≤ reportLen
  /-- `VLEN` is 0..5 (R25). -/
  vlen_le : s.vlen.toNat ≤ 5
  /-- `PLEN` is 0..5 (R25). -/
  plen_le : s.plen.toNat ≤ 5
  /-- `CLEN` is 0..`CCAP+1` (R25). -/
  clen_le : s.clen ≤ s.cfg.ccap + 1
  /-- `RES = OK` implies `LEN = 64` (R22). -/
  ok_full : s.res = .ok → s.len.toNat = reportLen
  /-- `RES = OK` and `TRN = Usb` imply the discriminator is `DISC_USB` (R19, R20). -/
  ok_usb : s.res = .ok → s.trn = .usb → s.rb.read 0 = s.cfg.discUsb
  /-- `RES = OK` and `TRN = Bluetooth` imply the discriminator is `DISC_BT` (R19, R20). -/
  ok_bluetooth : s.res = .ok → s.trn = .bluetooth → s.rb.read 0 = s.cfg.discBt
  /-- `RES = TRUNCATED` implies `LEN < 64` (R22). -/
  truncated_short : s.res = .truncated → s.len.toNat < reportLen
  /-- `RES = UNKNOWN_TRANSPORT` implies `LEN = 64` (R22). -/
  unknown_full : s.res = .unknownTransport → s.len.toNat = reportLen
  /-- `RES = UNKNOWN_TRANSPORT` implies an unrecognised discriminator (R22). -/
  unknown_disc : s.res = .unknownTransport → s.rb.read 0 ≠ 0x01#8 ∧ s.rb.read 0 ≠ 0x31#8
  /-- `RES = UNKNOWN_TRANSPORT` implies `ERRB` is the discriminator (R21). -/
  unknown_errb : s.res = .unknownTransport → s.errb = s.rb.read 0
  /-- `TRN` is 0 unless `RES = OK` (R20). -/
  trn_clear : s.res ≠ .ok → s.trn = .usb
  /-- `ERRB` is 0 unless `RES = UNKNOWN_TRANSPORT` (R21). -/
  errb_clear : s.res ≠ .unknownTransport → s.errb = 0x00#8
  /-- No more matches than tests (R26). -/
  mcnt_le : s.mcnt.toNat ≤ s.cidx.toNat
  /-- A most recent match has been counted (R26). -/
  mlast_counted : s.mlast = true → 0 < s.mcnt.toNat
  /-- With `HAS_DIM = 0` there is no DIM state: its registers stand at their reset values (46_matcher.md R149; log 6). -/
  dim_absent : s.cfg.hasDim = false →
    s.cls = .other ∧ s.vlen = 0#3 ∧ s.plen = 0#3 ∧ s.clen = 0 ∧ s.cidx = 0#16 ∧ s.mcnt = 0#16 ∧
      s.mlast = false

/-- The RDX state (10_state.md R15) of two states agrees. -/
structure State.SameRdx (s t : State) : Prop where
  rb : s.rb = t.rb
  len : s.len = t.len
  res : s.res = t.res
  trn : s.trn = t.trn
  errb : s.errb = t.errb

/-- The DIM state (10_state.md R24 to R26) of two states agrees. -/
structure State.SameDim (s t : State) : Prop where
  cls : s.cls = t.cls
  ven : s.ven = t.ven
  vlen : s.vlen = t.vlen
  pro : s.pro = t.pro
  plen : s.plen = t.plen
  cmb : s.cmb = t.cmb
  clen : s.clen = t.clen
  cidx : s.cidx = t.cidx
  mcnt : s.mcnt = t.mcnt
  mlast : s.mlast = t.mlast

/-- Two buffers hold the same 64 bytes. -/
def SameBytes (s t : State) : Prop := ∀ a, a < reportLen → s.rb.read a = t.rb.read a

/-- A command word is reserved under a configuration, by the lists of 30_encoding.md R63. -/
abbrev reservedWord (c : Config) (w : CmdWord) : Prop :=
  (0x05 ≤ (cmdOp w).toNat ∧ (cmdOp w).toNat ≤ 0x0F) ∨
  0x17 ≤ (cmdOp w).toNat ∨
  (0x10 ≤ (cmdOp w).toNat ∧ (cmdOp w).toNat ≤ 0x16 ∧ c.hasDim = false) ∨
  ((cmdOp w).toNat ∈ [0x00, 0x02, 0x04, 0x10, 0x15, 0x16] ∧ cmdArg w ≠ 0x00#8) ∨
  ((cmdOp w).toNat = 0x11 ∧ 3 ≤ (cmdArg w).toNat) ∨
  ((cmdOp w).toNat = 0x03 ∧
    ((cmdArg w).toNat ∈ [0x0A, 0x0B, 0x1B, 0x1C, 0x1D, 0x1E, 0x1F, 0x27, 0x35, 0x36, 0x37] ∨
      0x7F ≤ (cmdArg w).toNat))

end Sys2Proof.Machine
end

