-- ==== Sys2Proof/Certificates/Slice0/Obligations.lean ====
section
/-! DEFINITION. The statements about PRD, for the provers. Each docstring names the rules of spec/ it states. -/

open Sys2Proof Sys2Proof.Machine

/-- Words written out from the opcode map decode to their instructions. Derived from 30_encoding.md R60,
30_encoding.md R62. -/
def Obligations.DecodesWordsWrittenFromTheOpcodeMap : Prop :=
  decode 0x0000#16 = .ok .clr ∧ decode 0x0131#16 = .ok (.push 0x31#8) ∧ decode 0x0200#16 = .ok .dec ∧
  decode 0x0400#16 = .ok .stat ∧ decode 0x0301#16 = .ok .rdSeq ∧ decode 0x0308#16 = .ok .rdDpad ∧
  decode 0x0325#16 = .ok .rdAz ∧ decode 0x032B#16 = .ok .rdT0y ∧ decode 0x0331#16 = .ok .rdChg ∧
  decode 0x033F#16 = .ok .rdCmac7 ∧ decode 0x037E#16 = .ok .rdRaw62 ∧ decode 0x1102#16 = .ok .mcls2 ∧
  decode 0x1430#16 = .ok (.mcmb 0x30#8) ∧ decode 0x1500#16 = .ok .mtest

/-- Decoding the word of any instruction gives the instruction back. Derived from 30_encoding.md R59, 30_encoding.md
R60, 30_encoding.md R61, 30_encoding.md R62. -/
def Obligations.DecodeReadsBackEveryEncoding : Prop :=
  ∀ i : Instr, decode (encode i) = .ok i

/-- A word that decodes is the encoding of what it decodes to. Derived from 30_encoding.md R59, 30_encoding.md R60,
30_encoding.md R61, 30_encoding.md R62. -/
def Obligations.EachDecodedWordIsItsEncoding : Prop :=
  ∀ (w : CmdWord) (i : Instr), decode w = .ok i → encode i = w

/-- A reserved command word answers F_ILLEGAL_CMD with the word and writes no state. States R157. -/
def Obligations.ReservedWordAnswersIllegalCommand : Prop :=
  ∀ (s : State) (w : CmdWord) (rest : List CmdWord), s.cmds = w :: rest → reservedWord s.cfg w →
    step s = .next { s with cmds := rest, rsp := some ⟨.fIllegalCmd, w.setWidth 32⟩ } ∧
      RspCode.fIllegalCmd.bits = 5#4

/-- A word that R63 does not list is an instruction of a unit the configuration has. Derived from 30_encoding.md
R60, 30_encoding.md R62, 30_encoding.md R63. -/
def Obligations.UnreservedWordIsAnInstruction : Prop :=
  ∀ (c : Config) (w : CmdWord),
    ¬ reservedWord c w ↔ ∃ i, decode w = .ok i ∧ i.wellFormed c = true

/-- A step takes the oldest waiting word and executes the instruction it decodes to. Derived from 20_memory.md R44,
30_encoding.md R59. That the words stand in `State.cmds`, the oldest first, is the model's choice (log 1). -/
def Obligations.StepRunsTheDecodedInstruction : Prop :=
  ∀ (s : State) (w : CmdWord) (rest : List CmdWord) (i : Instr),
    s.cmds = w :: rest → decode w = .ok i → step s = exec i { s with cmds := rest }

/-- With no command waiting a step changes nothing and makes no response. Derived from 70_reset_and_hazards.md R169.
That a step without a word waits, and makes no response, is the model's choice (logs 1 and 2). -/
def Obligations.StepWithoutACommandWaits : Prop :=
  ∀ s : State, s.cmds = [] → step s = .next { s with rsp := none }

/-- Every step from every state answers a next state, with one response of code 0 to 5 per command word. Derived
from 70_reset_and_hazards.md R178, 60_exceptions.md R152, 30_encoding.md R66, 30_encoding.md R67,
93_implementation_defined.md U15, 93_implementation_defined.md U6. The place of the words and of the response is
the model's choice (logs 1 and 2). -/
def Obligations.EveryStepAnswersAndEveryCommandIsAnswered : Prop :=
  ∀ s : State, ∃ t, step s = .next t ∧ t.cmds = s.cmds.tail ∧
    (s.cmds ≠ [] → ∃ r, t.rsp = some r ∧ r.code.bits.toNat ≤ 5)

/-- CLR empties the report and clears the result, and touches nothing else. States R70. -/
def Obligations.ClrEmptiesTheReport : Prop :=
  encode .clr = 0x0000#16 ∧
  (∀ s : State, exec .clr s = .next { s with
    len := 0#7, res := .none, trn := .usb, errb := 0x00#8, rsp := some ⟨.ok, 0#32⟩ }) ∧
  (∀ (s : State) (arg : Byte) (rest : List CmdWord), arg ≠ 0x00#8 → s.cmds = cmdWord 0x00#8 arg :: rest →
    step s = .next { s with cmds := rest, rsp := some ⟨.fIllegalCmd, (cmdWord 0x00#8 arg).setWidth 32⟩ })

/-- PUSH stores one byte at LEN while there is room and always invalidates the result. States R71. -/
def Obligations.PushAppendsOneByte : Prop :=
  ∀ b : Byte, encode (.push b) = 0x0100#16 + b.setWidth 16 ∧
    ∀ s : State, ∃ (m : Memory) (n : BitVec 7),
      exec (.push b) s = .next { s with
        rb := m, len := n, res := .none, trn := .usb, errb := 0x00#8, rsp := some ⟨.ok, 0#32⟩ } ∧
      (s.len.toNat < 64 → n.toNat = s.len.toNat + 1 ∧
        ∀ a, m.read a = if a = s.len.toNat then b else s.rb.read a) ∧
      (¬ s.len.toNat < 64 → n = s.len ∧ m = s.rb)

/-- DEC checks the length, then the discriminator, and records the outcome. States R153, R154. -/
def Obligations.DecChecksLengthThenTransport : Prop :=
  encode .dec = 0x0200#16 ∧
  (∀ s : State,
    (s.len.toNat < 64 → exec .dec s = .next { s with
      res := .truncated, trn := .usb, errb := 0x00#8, rsp := some ⟨.eTruncated, s.len.setWidth 32⟩ }) ∧
    (64 ≤ s.len.toNat → s.rb.read 0 = s.cfg.discUsb → exec .dec s = .next { s with
      res := .ok, trn := .usb, errb := 0x00#8, rsp := some ⟨.ok, 0#32⟩ }) ∧
    (64 ≤ s.len.toNat → s.rb.read 0 = s.cfg.discBt → exec .dec s = .next { s with
      res := .ok, trn := .bluetooth, errb := 0x00#8, rsp := some ⟨.ok, 1#32⟩ }) ∧
    (64 ≤ s.len.toNat → s.rb.read 0 ≠ 0x01#8 → s.rb.read 0 ≠ 0x31#8 → exec .dec s = .next { s with
      res := .unknownTransport, trn := .usb, errb := s.rb.read 0,
      rsp := some ⟨.eUnknownTransport, (s.rb.read 0).setWidth 32⟩ })) ∧
  (∀ (s t : State) (i : Instr), exec .dec s = .next t → t.res ≠ .ok → i.isRd = true →
    exec i t = .next { t with rsp := some ⟨.fNotDecoded, t.res.bits.setWidth 32⟩ }) ∧
  RspCode.eTruncated.bits = 1#4 ∧ RspCode.eUnknownTransport.bits = 2#4

/-- A second DEC gives the same response and leaves the same state. Derived from 40_control_ops.md R72,
40_control_ops.md R76. -/
def Obligations.DecIsIdempotent : Prop :=
  ∀ s t : State, exec .dec s = .next t → exec .dec t = .next t

/-- STAT answers the status word, field by field, and changes nothing. States R73. -/
def Obligations.StatReturnsTheStatusWord : Prop :=
  encode .stat = 0x0400#16 ∧
  (∀ s : State, ∃ w : RspData, exec .stat s = .next { s with rsp := some ⟨.ok, w⟩ } ∧
    w.extractLsb' 0 7 = s.len ∧ w.extractLsb' 7 1 = 0#1 ∧ w.extractLsb' 8 2 = s.res.bits ∧
    w.extractLsb' 10 1 = s.trn.bit ∧ w.extractLsb' 11 5 = 0#5 ∧ w.extractLsb' 16 8 = s.errb ∧
    w.extractLsb' 24 8 = 0#8) ∧
  (∀ (s : State) (arg : Byte) (rest : List CmdWord), arg ≠ 0x00#8 → s.cmds = cmdWord 0x04#8 arg :: rest →
    step s = .next { s with cmds := rest, rsp := some ⟨.fIllegalCmd, (cmdWord 0x04#8 arg).setWidth 32⟩ })

/-- Every accessor answers F_NOT_DECODED with RES unless the report is decoded. States R155. -/
def Obligations.AccessorBeforeDecodeAnswersNotDecoded : Prop :=
  (∀ (i : Instr) (s : State), i.isRd = true → s.res ≠ .ok →
    exec i s = .next { s with rsp := some ⟨.fNotDecoded, s.res.bits.setWidth 32⟩ }) ∧
  RspCode.fNotDecoded.bits = 3#4 ∧ Res.none.bits = 0#2 ∧ Res.truncated.bits = 2#2 ∧
  Res.unknownTransport.bits = 3#2

/-- No accessor writes any state, on any path. Derived from 00_scope.md R11, 40_control_ops.md R74. -/
def Obligations.AccessorsWriteNoState : Prop :=
  ∀ (i : Instr) (s : State), i.isRd = true → ∃ r, exec i s = .next { s with rsp := some r }

/-- Once a report is decoded every accessor but DPAD answers OK, whatever the bytes. Derived from 40_control_ops.md
R74, 45_status.md R134, 20_memory.md R42. -/
def Obligations.OnlyDpadCanFailAfterDecode : Prop :=
  ∀ (i : Instr) (s : State), i.isRd = true → i ≠ .rdDpad → s.res = .ok →
    ∃ v, exec i s = .next { s with rsp := some ⟨.ok, v⟩ }

/-- An accessor's response depends on the 64 stored bytes and the parameters alone. Derived from 00_scope.md R11,
40_control_ops.md R76, 20_memory.md R42. -/
def Obligations.AccessorsDependOnTheReportAlone : Prop :=
  ∀ (i : Instr) (s₁ s₂ t₁ t₂ : State), i.isRd = true → s₁.Sound → s₂.Sound →
    s₁.res = .ok → s₂.res = .ok → s₁.cfg = s₂.cfg → SameBytes s₁ s₂ →
    exec i s₁ = .next t₁ → exec i s₂ = .next t₂ → t₁.rsp = t₂.rsp

/-- RD TRN returns the transport that DEC derived. States R79. -/
def Obligations.TransportReadout : Prop :=
  encode .rdTrn = 0x0300#16 ∧
  ∀ s : State,
    (s.res = .ok → s.trn = .usb → exec .rdTrn s = .next { s with rsp := some ⟨.ok, 0#32⟩ }) ∧
    (s.res = .ok → s.trn = .bluetooth → exec .rdTrn s = .next { s with rsp := some ⟨.ok, 1#32⟩ }) ∧
    (s.res ≠ .ok → exec .rdTrn s = .next { s with rsp := some ⟨.fNotDecoded, s.res.bits.setWidth 32⟩ }) ∧
    (s.Sound → s.res = .ok → (s.trn = .usb ↔ s.rb.read 0 = s.cfg.discUsb) ∧
      (s.trn = .bluetooth ↔ s.rb.read 0 = s.cfg.discBt))

/-- SEQ, LX, LY, RX, RY, TL, TR return their own payload byte, zero-extended. States R80, R81, R82, R83, R84, R85,
R86. -/
def Obligations.ByteFieldReadouts : Prop :=
  ∀ p ∈ ([
      (.rdSeq, 0x0301#16, 1), (.rdLx, 0x0302#16, 2), (.rdLy, 0x0303#16, 3), (.rdRx, 0x0304#16, 4),
      (.rdRy, 0x0305#16, 5), (.rdTl, 0x0306#16, 6), (.rdTr, 0x0307#16, 7)] :
      List (Instr × CmdWord × Nat)),
    encode p.1 = p.2.1 ∧ ∀ s : State,
      (s.res = .ok → exec p.1 s = .next { s with rsp := some ⟨.ok, (s.rb.read p.2.2).setWidth 32⟩ }) ∧
      (s.res ≠ .ok → exec p.1 s = .next { s with rsp := some ⟨.fNotDecoded, s.res.bits.setWidth 32⟩ })

/-- DPAD answers the nibble 0 to 8 and raises F_DPAD_INVARIANT on 9 to 15. States R90, R156. -/
def Obligations.DpadClassifiesTheNibble : Prop :=
  encode .rdDpad = 0x0308#16 ∧ RspCode.fDpadInvariant.bits = 4#4 ∧
  ∀ s : State,
    (s.res = .ok → (s.rb.read (s.cfg.btnB1Off + 1) &&& 0x0F#8).toNat ≤ 8 → exec .rdDpad s = .next { s with
      rsp := some ⟨.ok, (s.rb.read (s.cfg.btnB1Off + 1) &&& 0x0F#8).setWidth 32⟩ }) ∧
    (s.res = .ok → 9 ≤ (s.rb.read (s.cfg.btnB1Off + 1) &&& 0x0F#8).toNat → exec .rdDpad s = .next { s with
      rsp := some ⟨.fDpadInvariant, (s.rb.read (s.cfg.btnB1Off + 1) &&& 0x0F#8).setWidth 32⟩ }) ∧
    (s.res ≠ .ok → exec .rdDpad s = .next { s with rsp := some ⟨.fNotDecoded, s.res.bits.setWidth 32⟩ }) ∧
    (∀ (i : Instr) (t u v : State), i.isRd = true → exec .rdDpad s = .next t → exec i s = .next u →
      exec i t = .next v → v.rsp = u.rsp)

/-- DPADRAW returns the D-pad nibble for every byte, and equals DPAD whenever DPAD answers OK. States R91. -/
def Obligations.DpadRawReturnsTheNibble : Prop :=
  encode .rdDpadraw = 0x0309#16 ∧
  ∀ s : State,
    (s.res = .ok → exec .rdDpadraw s = .next { s with
      rsp := some ⟨.ok, (s.rb.read (s.cfg.btnB1Off + 1) &&& 0x0F#8).setWidth 32⟩ }) ∧
    (s.res ≠ .ok → exec .rdDpadraw s = .next { s with
      rsp := some ⟨.fNotDecoded, s.res.bits.setWidth 32⟩ }) ∧
    (∀ (t u : State) (v : RspData), exec .rdDpad s = .next t → t.rsp = some ⟨.ok, v⟩ →
      exec .rdDpadraw s = .next u → u.rsp = some ⟨.ok, v⟩)

/-- SQUARE, CROSS, CIRCLE, TRIANGLE return bits 4 to 7 of buttons region byte 1. States R92, R93, R94, R95. -/
def Obligations.FaceButtonFlags : Prop :=
  ∀ p ∈ ([
      (.rdSquare, 0x030C#16, 4), (.rdCross, 0x030D#16, 5), (.rdCircle, 0x030E#16, 6), (.rdTriangle, 0x030F#16, 7)] :
      List (Instr × CmdWord × Nat)),
    encode p.1 = p.2.1 ∧ ∀ s : State,
      (s.res = .ok → exec p.1 s = .next { s with rsp := some ⟨.ok,
        if (s.rb.read (s.cfg.btnB1Off + 1)).getLsbD p.2.2 then 1#32 else 0#32⟩ }) ∧
      (s.res ≠ .ok → exec p.1 s = .next { s with rsp := some ⟨.fNotDecoded, s.res.bits.setWidth 32⟩ })

/-- The flags of buttons region bytes 2 and 3 return their bit. States R96, R97, R98, R99, R100, R101, R102, R103,
R104, R105, R106. -/
def Obligations.LaterRegionByteFlags : Prop :=
  ∀ p ∈ ([
      (.rdL1, 0x0310#16, 2, 0), (.rdR1, 0x0311#16, 2, 1), (.rdL2b, 0x0312#16, 2, 2), (.rdR2b, 0x0313#16, 2, 3),
      (.rdCreate, 0x0314#16, 2, 4), (.rdOptions, 0x0315#16, 2, 5), (.rdL3, 0x0316#16, 2, 6),
      (.rdR3, 0x0317#16, 2, 7), (.rdHome, 0x0318#16, 3, 0), (.rdTpclick, 0x0319#16, 3, 1),
      (.rdMicbtn, 0x031A#16, 3, 2)] : List (Instr × CmdWord × Nat × Nat)),
    encode p.1 = p.2.1 ∧ ∀ s : State,
      (s.res = .ok → exec p.1 s = .next { s with rsp := some ⟨.ok,
        if (s.rb.read (s.cfg.btnB1Off + p.2.2.1)).getLsbD p.2.2.2 then 1#32 else 0#32⟩ }) ∧
      (s.res ≠ .ok → exec p.1 s = .next { s with rsp := some ⟨.fNotDecoded, s.res.bits.setWidth 32⟩ })

/-- Every button name is read by the select code BTN_MAP gives it. Derived from 42_buttons.md R88, 30_encoding.md
R62. The names, their places and that 1 means pressed are the spec's own choice (93_implementation_defined.md
G3, G4); the list form is the model's (log 10). -/
def Obligations.NamedButtonIsReadByItsSelectCode : Prop :=
  ∀ (s : State) (b : Button), s.res = .ok →
    ∃ i, decodeSelect (buttonSelect s.cfg b) = .ok i ∧
      exec i s = .next { s with rsp := some ⟨.ok, if s.pressed b then 1#32 else 0#32⟩ }

/-- Codes 0 to 8 name the nine directions one to one, and 8 is centered. Derived from 42_buttons.md R89,
42_buttons.md R90, 00_scope.md R7. The names are the spec's own choice (93_implementation_defined.md G5; log
10). -/
def Obligations.DirectionCodesAreNamedBijectively : Prop :=
  ∀ c : Config,
    (∀ d : Direction, ∃ code : BitVec 4, code.toNat ≤ 8 ∧ directionName c code = some d ∧
      ∀ code', directionName c code' = some d → code' = code) ∧
    (∀ code : BitVec 4, 8 < code.toNat → directionName c code = none) ∧
    directionName c 8#4 = some .centered

/-- GX, GY, GZ, AX, AY, AZ return their two bytes as a signed little-endian number. States R108, R109, R110, R111,
R112, R113. -/
def Obligations.MotionReadoutsAreSignedLittleEndian : Prop :=
  ∀ p ∈ ([
      (.rdGx, 0x0320#16, fun c => c.offGyro + 0), (.rdGy, 0x0321#16, fun c => c.offGyro + 2),
      (.rdGz, 0x0322#16, fun c => c.offGyro + 4), (.rdAx, 0x0323#16, fun c => c.offAccel + 0),
      (.rdAy, 0x0324#16, fun c => c.offAccel + 2), (.rdAz, 0x0325#16, fun c => c.offAccel + 4)] :
      List (Instr × CmdWord × (Config → Nat))),
    encode p.1 = p.2.1 ∧ ∀ s : State,
      (s.res = .ok → ∃ v : RspData, exec p.1 s = .next { s with rsp := some ⟨.ok, v⟩ } ∧
        v.toInt = ((s.rb.read (p.2.2 s.cfg + 1)).toNat : Int) + 256 * (s.rb.read (p.2.2 s.cfg + 2)).toNat -
          (if 0x80 ≤ (s.rb.read (p.2.2 s.cfg + 2)).toNat then 65536 else 0)) ∧
      (s.res ≠ .ok → exec p.1 s = .next { s with rsp := some ⟨.fNotDecoded, s.res.bits.setWidth 32⟩ })

/-- TS returns the four timestamp bytes as an unsigned little-endian number. States R114. -/
def Obligations.TimestampIsLittleEndian : Prop :=
  encode .rdTs = 0x0326#16 ∧
  ∀ s : State,
    (s.res = .ok → ∃ v : RspData, exec .rdTs s = .next { s with rsp := some ⟨.ok, v⟩ } ∧
      v.toNat = (s.rb.read (s.cfg.offTs + 1)).toNat + 256 * (s.rb.read (s.cfg.offTs + 2)).toNat +
        65536 * (s.rb.read (s.cfg.offTs + 3)).toNat + 16777216 * (s.rb.read (s.cfg.offTs + 4)).toNat) ∧
    (s.res ≠ .ok → exec .rdTs s = .next { s with rsp := some ⟨.fNotDecoded, s.res.bits.setWidth 32⟩ })

/-- TnACT is the inverted high bit of the contact byte and TnCNT its low seven bits. States R117, R118, R121, R122. -/
def Obligations.TouchContactReadouts : Prop :=
  ∀ p ∈ ([(.rdT0act, 0x0328#16, .rdT0cnt, 0x0329#16, 0), (.rdT1act, 0x032C#16, .rdT1cnt, 0x032D#16, 1)] :
      List (Instr × CmdWord × Instr × CmdWord × Nat)),
    match p with
    | (act, actWord, cnt, cntWord, n) =>
      encode act = actWord ∧ encode cnt = cntWord ∧ ∀ s : State,
        (s.res = .ok → exec act s = .next { s with rsp := some ⟨.ok,
          if (s.rb.read (s.cfg.offTouch + 4 * n + 1)).toNat < 0x80 then 1#32 else 0#32⟩ }) ∧
        (s.res = .ok → exec cnt s = .next { s with rsp := some ⟨.ok,
          (s.rb.read (s.cfg.offTouch + 4 * n + 1) &&& 0x7F#8).setWidth 32⟩ }) ∧
        (s.res ≠ .ok → exec act s = .next { s with rsp := some ⟨.fNotDecoded, s.res.bits.setWidth 32⟩ } ∧
          exec cnt s = .next { s with rsp := some ⟨.fNotDecoded, s.res.bits.setWidth 32⟩ })

/-- TnX and TnY unpack the three coordinate bytes of their point. States R119, R120, R123, R124. -/
def Obligations.TouchCoordinateReadouts : Prop :=
  ∀ p ∈ ([(.rdT0x, 0x032A#16, .rdT0y, 0x032B#16, 0), (.rdT1x, 0x032E#16, .rdT1y, 0x032F#16, 1)] :
      List (Instr × CmdWord × Instr × CmdWord × Nat)),
    match p with
    | (ix, wx, iy, wy, n) =>
      encode ix = wx ∧ encode iy = wy ∧ ∀ s : State,
        (s.res = .ok → ∃ x y : RspData,
          exec ix s = .next { s with rsp := some ⟨.ok, x⟩ } ∧ exec iy s = .next { s with rsp := some ⟨.ok, y⟩ } ∧
          x.toNat = (s.rb.read (s.cfg.offTouch + 4 * n + 2)).toNat +
            256 * ((s.rb.read (s.cfg.offTouch + 4 * n + 3)).toNat % 16) ∧
          y.toNat = (s.rb.read (s.cfg.offTouch + 4 * n + 3)).toNat / 16 +
            16 * (s.rb.read (s.cfg.offTouch + 4 * n + 4)).toNat) ∧
        (s.res ≠ .ok → exec ix s = .next { s with rsp := some ⟨.fNotDecoded, s.res.bits.setWidth 32⟩ } ∧
          exec iy s = .next { s with rsp := some ⟨.fNotDecoded, s.res.bits.setWidth 32⟩ })

/-- BATT and PERIPH return their status byte undecomposed. States R128, R132. -/
def Obligations.StatusByteReadouts : Prop :=
  encode .rdBatt = 0x0330#16 ∧ encode .rdPeriph = 0x0334#16 ∧
  ∀ s : State,
    (s.res = .ok → exec .rdBatt s = .next { s with
        rsp := some ⟨.ok, (s.rb.read (s.cfg.offBatt + 1)).setWidth 32⟩ } ∧
      exec .rdPeriph s = .next { s with rsp := some ⟨.ok, (s.rb.read (s.cfg.offPeriph + 1)).setWidth 32⟩ }) ∧
    (s.res ≠ .ok → exec .rdBatt s = .next { s with rsp := some ⟨.fNotDecoded, s.res.bits.setWidth 32⟩ } ∧
      exec .rdPeriph s = .next { s with rsp := some ⟨.fNotDecoded, s.res.bits.setWidth 32⟩ })

/-- CHGRAW and CAP return the two nibbles of battery_state, in the order CHG_HI fixes. States R129, R131. -/
def Obligations.BatteryNibbleReadouts : Prop :=
  encode .rdChgraw = 0x0332#16 ∧ encode .rdCap = 0x0333#16 ∧
  ∀ s : State,
    (s.res = .ok → ∃ chg cap : RspData,
      exec .rdChgraw s = .next { s with rsp := some ⟨.ok, chg⟩ } ∧
      exec .rdCap s = .next { s with rsp := some ⟨.ok, cap⟩ } ∧
      (s.cfg.chgHi = true → chg.toNat = (s.rb.read (s.cfg.offBatt + 1)).toNat / 16 ∧
        cap.toNat = (s.rb.read (s.cfg.offBatt + 1)).toNat % 16) ∧
      (s.cfg.chgHi = false → chg.toNat = (s.rb.read (s.cfg.offBatt + 1)).toNat % 16 ∧
        cap.toNat = (s.rb.read (s.cfg.offBatt + 1)).toNat / 16)) ∧
    (s.res ≠ .ok → exec .rdChgraw s = .next { s with rsp := some ⟨.fNotDecoded, s.res.bits.setWidth 32⟩ } ∧
      exec .rdCap s = .next { s with rsp := some ⟨.fNotDecoded, s.res.bits.setWidth 32⟩ })

/-- CHG answers a recognised code itself and 0x10 or the code otherwise, never an error. Derived from 45_status.md
R130, 45_status.md R127, 93_implementation_defined.md G8. The names of codes 1, 2, 0xA and 0xB and the five-bit
result are the spec's own choice, marked so in R130 and listed as G8. -/
def Obligations.ChargeClassificationKeepsTheCode : Prop :=
  encode .rdChg = 0x0331#16 ∧
  (∀ s : State,
    (s.res = .ok → ∀ chg : Nat,
      chg = (if s.cfg.chgHi then (s.rb.read (s.cfg.offBatt + 1)).toNat / 16
        else (s.rb.read (s.cfg.offBatt + 1)).toNat % 16) →
      (chg ∈ [0x0, 0x1, 0x2, 0xA, 0xB, 0xF] →
        exec .rdChg s = .next { s with rsp := some ⟨.ok, BitVec.ofNat 32 chg⟩ }) ∧
      (chg ∉ [0x0, 0x1, 0x2, 0xA, 0xB, 0xF] →
        exec .rdChg s = .next { s with rsp := some ⟨.ok, BitVec.ofNat 32 (16 + chg)⟩ })) ∧
    (s.res ≠ .ok → exec .rdChg s = .next { s with rsp := some ⟨.fNotDecoded, s.res.bits.setWidth 32⟩ })) ∧
  classifyCharge 0x0#4 = .discharging ∧ classifyCharge 0x1#4 = .charging ∧ classifyCharge 0x2#4 = .full ∧
  classifyCharge 0xA#4 = .voltageOrTemperatureOutOfRange ∧ classifyCharge 0xB#4 = .temperatureError ∧
  classifyCharge 0xF#4 = .chargingError ∧
  (∀ code : BitVec 4, code.toNat ∉ [0x0, 0x1, 0x2, 0xA, 0xB, 0xF] → classifyCharge code = .unknown code)

/-- CMAC0 to CMAC7 return the eight tag bytes in buffer order. States R133. -/
def Obligations.TagByteReadouts : Prop :=
  ∀ p ∈ ([
      (.rdCmac0, 0x0338#16, 56), (.rdCmac1, 0x0339#16, 57), (.rdCmac2, 0x033A#16, 58), (.rdCmac3, 0x033B#16, 59),
      (.rdCmac4, 0x033C#16, 60), (.rdCmac5, 0x033D#16, 61), (.rdCmac6, 0x033E#16, 62), (.rdCmac7, 0x033F#16, 63)] :
      List (Instr × CmdWord × Nat)),
    encode p.1 = p.2.1 ∧ ∀ s : State,
      (s.res = .ok → exec p.1 s = .next { s with rsp := some ⟨.ok, (s.rb.read p.2.2).setWidth 32⟩ }) ∧
      (s.res ≠ .ok → exec p.1 s = .next { s with rsp := some ⟨.fNotDecoded, s.res.bits.setWidth 32⟩ })

/-- RAW 0 to RAW 62 return the payload bytes uninterpreted. States R135. -/
def Obligations.RawReadoutsReturnEveryPayloadByte : Prop :=
  (∀ (k : Nat) (i : Instr), ([
      .rdRaw0, .rdRaw1, .rdRaw2, .rdRaw3, .rdRaw4, .rdRaw5, .rdRaw6, .rdRaw7, .rdRaw8, .rdRaw9, .rdRaw10, .rdRaw11,
      .rdRaw12, .rdRaw13, .rdRaw14, .rdRaw15, .rdRaw16, .rdRaw17, .rdRaw18, .rdRaw19, .rdRaw20, .rdRaw21, .rdRaw22,
      .rdRaw23, .rdRaw24, .rdRaw25, .rdRaw26, .rdRaw27, .rdRaw28, .rdRaw29, .rdRaw30, .rdRaw31, .rdRaw32, .rdRaw33,
      .rdRaw34, .rdRaw35, .rdRaw36, .rdRaw37, .rdRaw38, .rdRaw39, .rdRaw40, .rdRaw41, .rdRaw42, .rdRaw43, .rdRaw44,
      .rdRaw45, .rdRaw46, .rdRaw47, .rdRaw48, .rdRaw49, .rdRaw50, .rdRaw51, .rdRaw52, .rdRaw53, .rdRaw54, .rdRaw55,
      .rdRaw56, .rdRaw57, .rdRaw58, .rdRaw59, .rdRaw60, .rdRaw61, .rdRaw62] : List Instr)[k]? = some i →
    encode i = BitVec.ofNat 16 (0x0340 + k) ∧ ∀ s : State,
      (s.res = .ok → exec i s = .next { s with rsp := some ⟨.ok, (s.rb.read (k + 1)).setWidth 32⟩ }) ∧
      (s.res ≠ .ok → exec i s = .next { s with rsp := some ⟨.fNotDecoded, s.res.bits.setWidth 32⟩ })) ∧
  (∀ (s : State) (f : Byte) (rest : List CmdWord), 0x7F ≤ f.toNat → s.cmds = cmdWord 0x03#8 f :: rest →
    step s = .next { s with cmds := rest, rsp := some ⟨.fIllegalCmd, (cmdWord 0x03#8 f).setWidth 32⟩ })

/-- No step but one that takes a PUSH changes a buffer byte, and only PUSH and CLR move LEN. Derived from
10_state.md R16, 20_memory.md R43, 10_state.md R18. -/
def Obligations.OnlyPushWritesTheBuffer : Prop :=
  ∀ s t : State, step s = .next t →
    ((∀ b rest, s.cmds ≠ encode (.push b) :: rest) → t.rb = s.rb) ∧
    ((∀ b rest, s.cmds ≠ encode (.push b) :: rest) → (∀ rest, s.cmds ≠ encode .clr :: rest) → t.len = s.len)

/-- A command that raises a condition changes nothing, except that DEC records its result. Derived from
60_exceptions.md R152, 60_exceptions.md R161. -/
def Obligations.ConditionsChangeNothingButDecResults : Prop :=
  ∀ (i : Instr) (s t : State) (r : Response), exec i s = .next t → t.rsp = some r → r.code ≠ .ok →
    t = { s with rsp := some r } ∨
      (i = .dec ∧ t = { s with res := t.res, trn := t.trn, errb := t.errb, rsp := some r })

/-- Each condition is raised exactly by its cause, with the priority of R160. Derived from 60_exceptions.md R151,
60_exceptions.md R160. -/
def Obligations.EachConditionHasItsOneCause : Prop :=
  ∀ (i : Instr) (s t : State) (r : Response), exec i s = .next t → t.rsp = some r →
    (r.code = .eTruncated ↔ i = .dec ∧ s.len.toNat < 64) ∧
    (r.code = .eUnknownTransport ↔
      i = .dec ∧ 64 ≤ s.len.toNat ∧ s.rb.read 0 ≠ 0x01#8 ∧ s.rb.read 0 ≠ 0x31#8) ∧
    (r.code = .fNotDecoded ↔ i.isRd = true ∧ s.res ≠ .ok) ∧
    (r.code = .fDpadInvariant ↔
      i = .rdDpad ∧ s.res = .ok ∧ 9 ≤ (s.rb.read (s.cfg.btnB1Off + 1)).toNat % 16) ∧
    (r.code = .fIllegalCmd ↔ i.isDim = true ∧ s.cfg.hasDim = false)

/-- The phase moves by CLR, PUSH and DEC as the table of R75 says, and by nothing else. Derived from
40_control_ops.md R75, 10_state.md R22. -/
def Obligations.PhaseMovesOnlyAsListed : Prop :=
  ∀ (s t : State) (w : CmdWord) (rest : List CmdWord), s.cmds = w :: rest → step s = .next t →
    (w = encode .clr → t.phase = .empty) ∧
    ((∃ b, w = encode (.push b)) → t.phase = .loading) ∧
    (w = encode .dec → s.len.toNat < 64 → t.phase = .failed ∧ t.res = .truncated) ∧
    (w = encode .dec → 64 ≤ s.len.toNat → (s.rb.read 0 = 0x01#8 ∨ s.rb.read 0 = 0x31#8) → t.phase = .decoded) ∧
    (w = encode .dec → 64 ≤ s.len.toNat → s.rb.read 0 ≠ 0x01#8 → s.rb.read 0 ≠ 0x31#8 →
      t.phase = .failed ∧ t.res = .unknownTransport) ∧
    (w ≠ encode .clr → (∀ b, w ≠ encode (.push b)) → w ≠ encode .dec → t.phase = s.phase)

/-- Every step keeps the soundness of the state. Derived from 10_state.md R17, 10_state.md R19, 10_state.md R20,
10_state.md R21, 10_state.md R22, 10_state.md R25, 10_state.md R26, 46_matcher.md R149. The canonical form of
the byte registers, and the values the absent unit's registers hold, are the model's choice (logs 4, 5, 6, 11). -/
def Obligations.StepKeepsTheStateSound : Prop :=
  ∀ s t : State, s.Sound → step s = .next t → t.Sound

/-- The state after reset is sound, for every configuration. Derived from 10_state.md R30, 70_reset_and_hazards.md
R170. The byte registers at zero are the model's choice (logs 4, 5). -/
def Obligations.ResetIsSound : Prop :=
  ∀ c : Config, (State.resetWith c).Sound

/-- No step changes a parameter. Derived from 10_state.md R28, 70_reset_and_hazards.md R170. That the parameters
stand in the state is the model's choice (log 3). -/
def Obligations.ParametersNeverChange : Prop :=
  ∀ s t : State, step s = .next t → t.cfg = s.cfg

/-- No RDX command writes DIM state and no DIM command writes RDX state. Derived from 00_scope.md R2, 46_matcher.md
R136. -/
def Obligations.UnitsDoNotTouchEachOther : Prop :=
  ∀ (i : Instr) (s t : State), exec i s = .next t →
    (i.isDim = true → t.SameRdx s) ∧ (i.isDim = false → t.SameDim s)

/-- A command's response and effect depend on its own unit's state alone. Derived from 00_scope.md R2, 46_matcher.md
R136. -/
def Obligations.UnitsDoNotSeeEachOther : Prop :=
  ∀ (i : Instr) (s₁ s₂ t₁ t₂ : State), s₁.cfg = s₂.cfg → exec i s₁ = .next t₁ → exec i s₂ = .next t₂ →
    (i.isDim = true → s₁.SameDim s₂ → t₁.rsp = t₂.rsp ∧ t₁.SameDim t₂) ∧
    (i.isDim = false → s₁.SameRdx s₂ → t₁.rsp = t₂.rsp ∧ t₁.SameRdx t₂)

/-- The responses of a call depend on its bytes and the parameters alone. Derived from 40_control_ops.md R77,
10_state.md R29, 10_state.md R31. R77 marks this property as its own derivation from R70, R71, R72, R74 and R31. -/
def Obligations.CallIsStateless : Prop :=
  ∀ (s₁ s₂ : State) (bs : List Byte) (reads : List Instr), s₁.cfg = s₂.cfg →
    (∀ i ∈ reads, i.isRd = true ∨ i = .stat) →
    repliesOf (decodeProgram bs ++ reads) s₁ = repliesOf (decodeProgram bs ++ reads) s₂ ∧
      (repliesOf (decodeProgram bs ++ reads) s₁).length = bs.length + 2 + reads.length

/-- DECODE of any byte list ends as the source's decode function says and holds the bytes. Derived from
40_control_ops.md R70, 40_control_ops.md R71, 40_control_ops.md R72, 30_encoding.md R69, 10_state.md R17. -/
def Obligations.DecodeOfBytes : Prop :=
  ∀ (s : State) (bs : List Byte), ∃ t, runCommands (decodeProgram bs) s = some t ∧
    t.len.toNat = min bs.length 64 ∧
    (∀ k, k < 64 → ∀ b, bs[k]? = some b → t.rb.read k = b) ∧
    (bs.length < 64 → t.res = .truncated ∧ t.rsp = some ⟨.eTruncated, BitVec.ofNat 32 bs.length⟩) ∧
    (64 ≤ bs.length → bs[0]? = some s.cfg.discUsb → t.res = .ok ∧ t.trn = .usb ∧ t.rsp = some ⟨.ok, 0#32⟩) ∧
    (64 ≤ bs.length → bs[0]? = some s.cfg.discBt →
      t.res = .ok ∧ t.trn = .bluetooth ∧ t.rsp = some ⟨.ok, 1#32⟩) ∧
    (∀ d, 64 ≤ bs.length → bs[0]? = some d → d ≠ 0x01#8 → d ≠ 0x31#8 →
      t.res = .unknownTransport ∧ t.errb = d ∧ t.rsp = some ⟨.eUnknownTransport, d.setWidth 32⟩)

/-- A buffer of more than 64 bytes decodes like its first 64 bytes. Derived from 40_control_ops.md R71,
30_encoding.md R50, 10_state.md R17. -/
def Obligations.BytesPastTheSixtyFourthAreDropped : Prop :=
  ∀ (s : State) (bs more : List Byte), 64 ≤ bs.length →
    runCommands (decodeProgram (bs ++ more)) s = runCommands (decodeProgram bs) s

/-- Commands other than CLR and PUSH leave the decoded report readable and unchanged. Derived from 20_memory.md R43,
20_memory.md R45. -/
def Obligations.BufferStandsUntilNextReport : Prop :=
  ∀ (s : State) (is : List Instr), s.Sound → s.res = .ok →
    (∀ i ∈ is, i ≠ .clr ∧ ∀ b, i ≠ .push b) →
    ∃ t, runCommands is s = some t ∧ t.SameRdx s

/-- Reset puts every register the spec gives a value at that value, as CLR and MRST do. States R167, R168. -/
def Obligations.ResetValues : Prop :=
  ∀ c : Config,
    ((State.resetWith c).len = 0#7 ∧ (State.resetWith c).res = .none ∧ Res.none.bits = 0#2 ∧
      (State.resetWith c).trn.bit = 0#1 ∧ (State.resetWith c).errb = 0x00#8 ∧
      (State.resetWith c).phase = .empty) ∧
    ((State.resetWith c).cls = .other ∧ DevClass.other.bits = 0#2 ∧ (State.resetWith c).vlen = 0#3 ∧
      (State.resetWith c).plen = 0#3 ∧ (State.resetWith c).clen = 0 ∧ (State.resetWith c).cidx = 0#16 ∧
      (State.resetWith c).mcnt = 0#16 ∧ (State.resetWith c).mlast = false) ∧
    (∀ s : State, ∃ t, exec .clr s = .next t ∧
      t.len = (State.resetWith c).len ∧ t.res = (State.resetWith c).res ∧ t.trn = (State.resetWith c).trn ∧
      t.errb = (State.resetWith c).errb) ∧
    (∀ s : State, s.cfg.hasDim = true → ∃ t, exec .mrst s = .next t ∧
      t.cls = (State.resetWith c).cls ∧ t.vlen = (State.resetWith c).vlen ∧ t.plen = (State.resetWith c).plen ∧
      t.clen = (State.resetWith c).clen ∧ t.cidx = (State.resetWith c).cidx ∧
      t.mcnt = (State.resetWith c).mcnt ∧ t.mlast = (State.resetWith c).mlast)

/-- Every command is defined right after reset. Derived from 70_reset_and_hazards.md R169, 46_matcher.md R149. R169
marks this as its own derivation from R167, R168 and the command rules. -/
def Obligations.FirstCommandAfterReset : Prop :=
  ∀ c : Config,
    (∃ t, exec .dec (State.resetWith c) = .next t ∧ t.rsp = some ⟨.eTruncated, 0#32⟩) ∧
    (∀ i : Instr, i.isRd = true →
      ∃ t, exec i (State.resetWith c) = .next t ∧ t.rsp = some ⟨.fNotDecoded, 0#32⟩) ∧
    (∀ i : Instr, i ≠ .dec → i.isRd = false → (i.isDim = true → c.hasDim = true) →
      ∃ t, exec i (State.resetWith c) = .next t ∧ t.rsp = some ⟨.ok, 0#32⟩) ∧
    (∀ i : Instr, i.isDim = true → c.hasDim = false →
      ∃ t, exec i (State.resetWith c) = .next t ∧ t.rsp = some ⟨.fIllegalCmd, (encode i).setWidth 32⟩) ∧
    (c.hasDim = true →
      ∃ t, exec .mtest (State.resetWith c) = .next t ∧ t.rsp = some ⟨.ok, 0#32⟩ ∧ t.cidx = 1#16 ∧
        t.mcnt = 0#16)

/-- MRST clears the class, the lengths, the counters and the last result, and nothing else. States R139. -/
def Obligations.MrstBeginsAScan : Prop :=
  encode .mrst = 0x1000#16 ∧
  (∀ s : State, s.cfg.hasDim = true → exec .mrst s = .next { s with
    cls := .other, vlen := 0#3, plen := 0#3, clen := 0, cidx := 0#16, mcnt := 0#16, mlast := false,
    rsp := some ⟨.ok, 0#32⟩ }) ∧
  (∀ s : State, s.cfg.hasDim = false →
    exec .mrst s = .next { s with rsp := some ⟨.fIllegalCmd, 0x1000#32⟩ }) ∧
  (∀ (s : State) (arg : Byte) (rest : List CmdWord), arg ≠ 0x00#8 → s.cmds = cmdWord 0x10#8 arg :: rest →
    step s = .next { s with cmds := rest, rsp := some ⟨.fIllegalCmd, (cmdWord 0x10#8 arg).setWidth 32⟩ })

/-- MCLS sets the class tag and empties the three strings, and nothing else. States R140. -/
def Obligations.MclsBeginsARecord : Prop :=
  (∀ p ∈ ([(.mcls0, 0x1100#16, .other), (.mcls1, 0x1101#16, .input), (.mcls2, 0x1102#16, .hid)] :
      List (Instr × CmdWord × DevClass)),
    encode p.1 = p.2.1 ∧ ∀ s : State,
      (s.cfg.hasDim = true → exec p.1 s = .next { s with
        cls := p.2.2, vlen := 0#3, plen := 0#3, clen := 0, rsp := some ⟨.ok, 0#32⟩ }) ∧
      (s.cfg.hasDim = false → exec p.1 s = .next { s with
        rsp := some ⟨.fIllegalCmd, p.2.1.setWidth 32⟩ })) ∧
  (∀ (s : State) (k : Byte) (rest : List CmdWord), 3 ≤ k.toNat → s.cmds = cmdWord 0x11#8 k :: rest →
    step s = .next { s with cmds := rest, rsp := some ⟨.fIllegalCmd, (cmdWord 0x11#8 k).setWidth 32⟩ })

/-- MVEN, MPRO and MCMB append one byte at the length and mark a string that grew too long. States R141, R142, R143. -/
def Obligations.StringCommandsAppendOneByte : Prop :=
  ∀ c : Byte, encode (.mven c) = 0x1200#16 + c.setWidth 16 ∧ encode (.mpro c) = 0x1300#16 + c.setWidth 16 ∧
    encode (.mcmb c) = 0x1400#16 + c.setWidth 16 ∧ ∀ s : State,
      (s.cfg.hasDim = true → ∃ (m : Memory) (n : BitVec 3),
        exec (.mven c) s = .next { s with ven := m, vlen := n, rsp := some ⟨.ok, 0#32⟩ } ∧
        (s.vlen.toNat < 4 → n.toNat = s.vlen.toNat + 1 ∧
          ∀ a, m.read a = if a = s.vlen.toNat then c else s.ven.read a) ∧
        (4 ≤ s.vlen.toNat → n = 5#3 ∧ m = s.ven)) ∧
      (s.cfg.hasDim = true → ∃ (m : Memory) (n : BitVec 3),
        exec (.mpro c) s = .next { s with pro := m, plen := n, rsp := some ⟨.ok, 0#32⟩ } ∧
        (s.plen.toNat < 4 → n.toNat = s.plen.toNat + 1 ∧
          ∀ a, m.read a = if a = s.plen.toNat then c else s.pro.read a) ∧
        (4 ≤ s.plen.toNat → n = 5#3 ∧ m = s.pro)) ∧
      (s.cfg.hasDim = true → ∃ (m : Memory) (n : Nat),
        exec (.mcmb c) s = .next { s with cmb := m, clen := n, rsp := some ⟨.ok, 0#32⟩ } ∧
        (s.clen < s.cfg.ccap → n = s.clen + 1 ∧ ∀ a, m.read a = if a = s.clen then c else s.cmb.read a) ∧
        (s.cfg.ccap ≤ s.clen → n = s.cfg.ccap + 1 ∧ m = s.cmb)) ∧
      (s.cfg.hasDim = false → ∀ i ∈ ([.mven c, .mpro c, .mcmb c] : List Instr),
        exec i s = .next { s with rsp := some ⟨.fIllegalCmd, (encode i).setWidth 32⟩ })

/-- MTEST answers the index and whether the class and one of the two forms match, and counts. States R138, R144. -/
def Obligations.MtestEvaluatesTheRecord : Prop :=
  encode .mtest = 0x1500#16 ∧
  (∀ s : State, s.cfg.hasDim = true → ∃ (m : Bool) (w : RspData) (idx cnt : BitVec 16),
    exec .mtest s = .next { s with mlast := m, cidx := idx, mcnt := cnt, rsp := some ⟨.ok, w⟩ } ∧
    (m = true ↔ (s.cls = .input ∨ s.cls = .hid) ∧
      ((s.vlen.toNat = 4 ∧ (∀ k, k < 4 → s.cfg.vidStr[k]? = some (s.ven.read k)) ∧
        s.plen.toNat = 4 ∧ (∀ k, k < 4 → s.cfg.pidStr[k]? = some (s.pro.read k))) ∨
       (s.clen = s.cfg.ccap ∧ ∀ k, k < s.cfg.ccap → s.cfg.cmbStr[k]? = some (s.cmb.read k)))) ∧
    w.extractLsb' 16 16 = s.cidx ∧ w.extractLsb' 1 15 = 0#15 ∧ w.extractLsb' 0 1 = BitVec.ofBool m ∧
    idx.toNat = min (s.cidx.toNat + 1) 0xFFFF ∧
    (m = true → cnt.toNat = min (s.mcnt.toNat + 1) 0xFFFF) ∧ (m = false → cnt = s.mcnt)) ∧
  (∀ s : State, s.cfg.hasDim = false →
    exec .mtest s = .next { s with rsp := some ⟨.fIllegalCmd, 0x1500#32⟩ }) ∧
  (∀ (s : State) (arg : Byte) (rest : List CmdWord), arg ≠ 0x00#8 → s.cmds = cmdWord 0x15#8 arg :: rest →
    step s = .next { s with cmds := rest, rsp := some ⟨.fIllegalCmd, (cmdWord 0x15#8 arg).setWidth 32⟩ })

/-- MSTAT answers CIDX and MCNT and changes nothing. States R145. -/
def Obligations.MstatReturnsTheScanCounters : Prop :=
  encode .mstat = 0x1600#16 ∧
  (∀ s : State, s.cfg.hasDim = true → ∃ w : RspData,
    exec .mstat s = .next { s with rsp := some ⟨.ok, w⟩ } ∧
    w.extractLsb' 0 16 = s.mcnt ∧ w.extractLsb' 16 16 = s.cidx) ∧
  (∀ s : State, s.cfg.hasDim = false →
    exec .mstat s = .next { s with rsp := some ⟨.fIllegalCmd, 0x1600#32⟩ }) ∧
  (∀ (s : State) (arg : Byte) (rest : List CmdWord), arg ≠ 0x00#8 → s.cmds = cmdWord 0x16#8 arg :: rest →
    step s = .next { s with cmds := rest, rsp := some ⟨.fIllegalCmd, (cmdWord 0x16#8 arg).setWidth 32⟩ })

/-- With HAS_DIM = 0 every DIM command is illegal, and RDX behaves the same either way. Derived from 46_matcher.md
R149, 30_encoding.md R63. -/
def Obligations.AbsentMatcherAnswersIllegalCommand : Prop :=
  (∀ (i : Instr) (s : State), i.isDim = true → s.cfg.hasDim = false →
    exec i s = .next { s with rsp := some ⟨.fIllegalCmd, (encode i).setWidth 32⟩ }) ∧
  (∀ (i : Instr) (s t : State) (c : Config), i.isDim = false →
    c.toParams = { s.cfg.toParams with hasDim := c.hasDim } →
    exec i s = .next t → exec i { s with cfg := c } = .next { t with cfg := c })

/-- MCAND matches exactly when the class is right and either identity form equals its literal. Derived from
46_matcher.md R138, 30_encoding.md R69, 46_matcher.md R148. -/
def Obligations.CandidateMatchesByEitherForm : Prop :=
  ∀ (s : State) (k : DevClass) (v p c : List Byte), s.cfg.hasDim = true →
    ∃ t w, runCommands (candidateProgram k v p c) s = some t ∧ t.rsp = some ⟨.ok, w⟩ ∧
      t.mlast = w.getLsbD 0 ∧
      (w.getLsbD 0 = true ↔
        k ≠ .other ∧ ((v = s.cfg.vidStr ∧ p = s.cfg.pidStr) ∨ c = s.cfg.cmbStr))

/-- n tests of one record add n to CIDX and, if it matches, to MCNT, up to 0xFFFF. Derived from 10_state.md R26,
46_matcher.md R144, 93_implementation_defined.md U13. -/
def Obligations.TestsAreCountedUpToTheLimit : Prop :=
  ∀ (s : State) (n : Nat), s.cfg.hasDim = true →
    ∃ t, runCommands (List.replicate n .mtest) s = some t ∧
      t.cidx.toNat = min (s.cidx.toNat + n) 0xFFFF ∧
      t.mcnt.toNat = (if s.recordMatches then min (s.mcnt.toNat + n) 0xFFFF else s.mcnt.toNat) ∧
      t.recordMatches = s.recordMatches ∧ t.cls = s.cls ∧ t.ven = s.ven ∧ t.vlen = s.vlen ∧ t.pro = s.pro ∧
      t.plen = s.plen ∧ t.cmb = s.cmb ∧ t.clen = s.clen ∧ t.SameRdx s

/-- A built configuration has every field inside the payload, no two overlapping, at legal offsets. Derived from
00_scope.md R7, 00_scope.md R8, 20_memory.md R42. That a refused set is one `Config.build` does not build is the
model's choice (log 3). -/
def Obligations.AdmittedLayoutsFitTheReport : Prop :=
  ∀ (p : Params) (c : Config), Config.build p = some c →
    c.toParams = p ∧
    (11 ≤ p.offGyro ∧ p.offGyro ≤ 49) ∧ (11 ≤ p.offAccel ∧ p.offAccel ≤ 49) ∧
    (11 ≤ p.offTs ∧ p.offTs ≤ 51) ∧ (11 ≤ p.offTouch ∧ p.offTouch ≤ 47) ∧
    (11 ≤ p.offBatt ∧ p.offBatt ≤ 54) ∧ (11 ≤ p.offPeriph ∧ p.offPeriph ≤ 54) ∧
    ([(p.offGyro, 6), (p.offAccel, 6), (p.offTs, 4), (p.offTouch, 8), (p.offBatt, 1),
      (p.offPeriph, 1)].Pairwise fun a b => a.1 + a.2 ≤ b.1 ∨ b.1 + b.2 ≤ a.1) ∧
    (p.btnB1Off = 7 ∨ p.btnB1Off = 8) ∧
    ((p.discUsb = 0x01#8 ∧ p.discBt = 0x31#8) ∨ (p.discUsb = 0x31#8 ∧ p.discBt = 0x01#8))

/-- Two canonical lists of byte registers that read the same at every index are equal. Derived from 20_memory.md
R34, 20_memory.md R35. The canonical form is the model's choice (log 4). -/
def Obligations.CanonicalRegistersAreEqualWhenTheyReadEqual : Prop :=
  ∀ (size : Nat) (m₁ m₂ : Memory), m₁.wf size = true → m₂.wf size = true →
    (∀ a, a < size → m₁.read a = m₂.read a) → m₁ = m₂
end

