-- ==== Sys2Proof/Laws/Decode.lean ====
section
/-! SUPPORT. The halves of a command word, and the two forms every accessor's meaning has. -/

namespace Sys2Proof

/-- The opcode byte of a word put together from two bytes. -/
@[simp] theorem cmdOp_cmdWord (a b : Byte) : cmdOp (cmdWord a b) = a := by
  unfold cmdOp cmdWord
  apply BitVec.eq_of_getLsbD_eq
  intro i hi
  rw [BitVec.getLsbD_extractLsb']
  erw [BitVec.getLsbD_append]
  simp [hi]

/-- The operand byte of a word put together from two bytes. -/
@[simp] theorem cmdArg_cmdWord (a b : Byte) : cmdArg (cmdWord a b) = b := by
  unfold cmdArg cmdWord
  apply BitVec.eq_of_getLsbD_eq
  intro i hi
  rw [BitVec.getLsbD_extractLsb']
  erw [BitVec.getLsbD_append]
  simp [hi]

/-- A word is its two bytes put together. -/
theorem cmdWord_eta (w : CmdWord) : cmdWord (cmdOp w) (cmdArg w) = w := by
  unfold cmdArg cmdOp cmdWord
  apply BitVec.eq_of_getLsbD_eq
  intro i hi
  erw [BitVec.getLsbD_append]
  rw [BitVec.getLsbD_extractLsb', BitVec.getLsbD_extractLsb']
  by_cases h : i < 8
  · simp [h]
  · simp only [h, decide_false, Bool.false_and]
    rw [show 8 + (i - 8) = i by omega]
    simp
    omega

namespace Machine

/-- Every accessor but `DPAD` is a readout of some value. -/
theorem exec_readout (i : Instr) (s : State) (h : i.isRd = true) (hd : i ≠ .rdDpad) :
    ∃ v, exec i s = s.readout v := by
  cases i <;> first | exact ⟨_, rfl⟩ | exact absurd rfl hd | cases h

/-- `DPAD` is an accessor whose answer depends on the nibble. -/
theorem exec_rdDpad (s : State) : exec .rdDpad s = s.whenDecoded
    (if s.dpadNibble.toNat ≤ 8 then s.respond (zext32 s.dpadNibble)
     else s.raise .fDpadInvariant (zext32 s.dpadNibble)) := rfl

end Machine

end Sys2Proof
end

