-- ==== Sys2Proof/Laws/Memory.lean ====
section
/-! SUPPORT. The laws of the byte registers: a read after a write, and that every operation keeps the canonical form. -/

namespace Sys2Proof.Machine

@[simp] theorem Memory.read_nil (a : Nat) : Memory.read [] a = Memory.unlisted := rfl

theorem Memory.read_cons (cell : Host.Cell) (m : Memory) (a : Nat) :
    Memory.read (cell :: m) a = if cell.1 = a then cell.2 else Memory.read m a := rfl

/-- Erasing an index makes it read as unlisted and changes no other index. -/
theorem Memory.read_erase (m : Memory) (a b : Nat) :
    (Memory.erase m a).read b = if b = a then Memory.unlisted else m.read b := by
  induction m with
  | nil => simp [Memory.erase, Memory.read]
  | cons cell m ih =>
    by_cases hb : b = a
    · subst hb
      by_cases h : cell.1 = b <;> simpa [Memory.erase, h, Memory.read_cons] using ih
    · by_cases h : cell.1 = a
      · simp [Memory.erase, h, ih, hb, Memory.read_cons, Ne.symm hb]
      · simp [Memory.erase, h, ih, hb, Memory.read_cons]

/-- No cell of an erased index is left. -/
theorem Memory.erase_absent (m : Memory) (a : Nat) : ∀ cell ∈ Memory.erase m a, cell.1 ≠ a := by
  induction m with
  | nil => simp [Memory.erase]
  | cons cell m ih =>
    by_cases h : cell.1 = a
    · simpa [Memory.erase, h] using ih
    · intro d hd
      simp only [Memory.erase, h, if_false, List.mem_cons] at hd
      rcases hd with rfl | hd
      · exact h
      · exact ih d hd

/-- Inserting a cell of a new index adds that index and changes no other. -/
theorem Memory.read_insert (m : Memory) (a b : Nat) (v : Byte) (habs : ∀ cell ∈ m, cell.1 ≠ a) :
    (Memory.insert m a v).read b = if b = a then v else m.read b := by
  induction m with
  | nil => simp [Memory.insert, Memory.read, eq_comm]
  | cons cell m ih =>
    have hne : cell.1 ≠ a := habs cell (List.mem_cons_self ..)
    have ih' := ih (fun d hd => habs d (List.mem_cons_of_mem _ hd))
    by_cases hlt : a < cell.1
    · simp [Memory.insert, hlt, Memory.read_cons, eq_comm]
    · by_cases hb : b = a
      · subst hb; simp [Memory.insert, hlt, Memory.read_cons, ih', hne]
      · simp [Memory.insert, hlt, Memory.read_cons, ih', hb]

/-- A read after a write: the written index reads as the written byte, every other index as before. -/
theorem Memory.read_write (m : Memory) (a b : Nat) (v : Byte) :
    (m.write a v).read b = if b = a then v else m.read b := by
  unfold Memory.write
  split
  next h => rw [Memory.read_erase, h]
  next => rw [Memory.read_insert _ _ _ _ (Memory.erase_absent m a), Memory.read_erase]; split <;> rfl

@[simp] theorem Memory.read_write_same (m : Memory) (a : Nat) (v : Byte) : (m.write a v).read a = v := by
  simp [Memory.read_write]

theorem Memory.read_write_other (m : Memory) {a b : Nat} (v : Byte) (h : b ≠ a) :
    (m.write a v).read b = m.read b := by
  simp [Memory.read_write, h]

/-- Canonical from a later index is canonical from an earlier one. -/
theorem Memory.wfFrom_mono {lo lo' hi : Nat} {m : Memory} (hle : lo' ≤ lo)
    (h : Memory.wfFrom lo hi m = true) : Memory.wfFrom lo' hi m = true := by
  cases m with
  | nil => rfl
  | cons cell m =>
    simp only [Memory.wfFrom, Bool.and_eq_true, decide_eq_true_eq] at h ⊢
    exact ⟨⟨⟨by omega, h.1.1.2⟩, h.1.2⟩, h.2⟩

theorem Memory.wfFrom_erase {lo hi : Nat} {m : Memory} (a : Nat) (h : Memory.wfFrom lo hi m = true) :
    Memory.wfFrom lo hi (Memory.erase m a) = true := by
  induction m generalizing lo with
  | nil => rfl
  | cons cell m ih =>
    simp only [Memory.wfFrom, Bool.and_eq_true, decide_eq_true_eq] at h
    have ih' := ih h.2
    by_cases hc : cell.1 = a
    · simp only [Memory.erase, hc, if_true]
      exact Memory.wfFrom_mono (by omega) ih'
    · simp only [Memory.erase, hc, if_false, Memory.wfFrom, Bool.and_eq_true, decide_eq_true_eq]
      exact ⟨⟨⟨h.1.1.1, h.1.1.2⟩, h.1.2⟩, ih'⟩

theorem Memory.wfFrom_insert {lo hi : Nat} {m : Memory} {a : Nat} {v : Byte}
    (h : Memory.wfFrom lo hi m = true) (hlo : lo ≤ a) (hhi : a < hi) (hv : v ≠ Memory.unlisted)
    (habs : ∀ cell ∈ m, cell.1 ≠ a) : Memory.wfFrom lo hi (Memory.insert m a v) = true := by
  induction m generalizing lo with
  | nil => simp [Memory.insert, Memory.wfFrom, hlo, hhi, hv]
  | cons cell m ih =>
    simp only [Memory.wfFrom, Bool.and_eq_true, decide_eq_true_eq] at h
    have hne : cell.1 ≠ a := habs cell (List.mem_cons_self ..)
    have habs' : ∀ d ∈ m, d.1 ≠ a := fun d hd => habs d (List.mem_cons_of_mem _ hd)
    by_cases hlt : a < cell.1
    · simp only [Memory.insert, hlt, if_true, Memory.wfFrom, Bool.and_eq_true, decide_eq_true_eq,
        bne_iff_ne, ne_eq]
      exact ⟨⟨⟨hlo, hhi⟩, hv⟩, ⟨⟨⟨by omega, h.1.1.2⟩, by simpa using h.1.2⟩, h.2⟩⟩
    · simp only [Memory.insert, hlt, if_false, Memory.wfFrom, Bool.and_eq_true, decide_eq_true_eq]
      exact ⟨⟨⟨h.1.1.1, h.1.1.2⟩, h.1.2⟩, ih h.2 (by omega) habs'⟩

/-- A write inside the registers keeps the canonical form. -/
theorem Memory.wf_write {size : Nat} {m : Memory} {a : Nat} (v : Byte) (h : m.wf size = true)
    (ha : a < size) : (m.write a v).wf size = true := by
  unfold Memory.write Memory.wf at *
  split
  next => exact Memory.wfFrom_erase a h
  next hv =>
    exact Memory.wfFrom_insert (Memory.wfFrom_erase a h) (Nat.zero_le _) ha hv (Memory.erase_absent m a)

/-- The empty list is canonical: byte registers that nothing has written. -/
@[simp] theorem Memory.wf_nil (size : Nat) : Memory.wf size [] = true := rfl

@[simp] theorem Memory.length_bytes (m : Memory) (n : Nat) : (m.bytes n).length = n := by
  simp [Memory.bytes]

/-- The byte list of registers, index by index. -/
theorem Memory.getElem?_bytes (m : Memory) (n k : Nat) :
    (m.bytes n)[k]? = if k < n then some (m.read k) else none := by
  simp only [Memory.bytes, List.getElem?_map]
  by_cases h : k < n <;> simp [h]

end Sys2Proof.Machine
end

