-- ==== Sys2Proof/Laws/State.lean ====
section
/-! SUPPORT. One lemma per field per named update of the state, so that no proof unfolds a record update; and the fields
of the state after reset. -/

namespace Sys2Proof.Machine

/-! ## `State.answer` -/

@[simp] theorem State.answer_cfg (s : State) (r : Response) : (s.answer r).cfg = s.cfg := rfl
@[simp] theorem State.answer_cmds (s : State) (r : Response) : (s.answer r).cmds = s.cmds := rfl
@[simp] theorem State.answer_rsp (s : State) (r : Response) : (s.answer r).rsp = some r := rfl
@[simp] theorem State.answer_rb (s : State) (r : Response) : (s.answer r).rb = s.rb := rfl
@[simp] theorem State.answer_len (s : State) (r : Response) : (s.answer r).len = s.len := rfl
@[simp] theorem State.answer_res (s : State) (r : Response) : (s.answer r).res = s.res := rfl
@[simp] theorem State.answer_trn (s : State) (r : Response) : (s.answer r).trn = s.trn := rfl
@[simp] theorem State.answer_errb (s : State) (r : Response) : (s.answer r).errb = s.errb := rfl
@[simp] theorem State.answer_cls (s : State) (r : Response) : (s.answer r).cls = s.cls := rfl
@[simp] theorem State.answer_ven (s : State) (r : Response) : (s.answer r).ven = s.ven := rfl
@[simp] theorem State.answer_vlen (s : State) (r : Response) : (s.answer r).vlen = s.vlen := rfl
@[simp] theorem State.answer_pro (s : State) (r : Response) : (s.answer r).pro = s.pro := rfl
@[simp] theorem State.answer_plen (s : State) (r : Response) : (s.answer r).plen = s.plen := rfl
@[simp] theorem State.answer_cmb (s : State) (r : Response) : (s.answer r).cmb = s.cmb := rfl
@[simp] theorem State.answer_clen (s : State) (r : Response) : (s.answer r).clen = s.clen := rfl
@[simp] theorem State.answer_cidx (s : State) (r : Response) : (s.answer r).cidx = s.cidx := rfl
@[simp] theorem State.answer_mcnt (s : State) (r : Response) : (s.answer r).mcnt = s.mcnt := rfl
@[simp] theorem State.answer_mlast (s : State) (r : Response) : (s.answer r).mlast = s.mlast := rfl

/-! ## `State.accept` -/

@[simp] theorem State.accept_cfg (s : State) (rest : List CmdWord) : (s.accept rest).cfg = s.cfg := rfl
@[simp] theorem State.accept_cmds (s : State) (rest : List CmdWord) : (s.accept rest).cmds = rest := rfl
@[simp] theorem State.accept_rsp (s : State) (rest : List CmdWord) : (s.accept rest).rsp = s.rsp := rfl
@[simp] theorem State.accept_rb (s : State) (rest : List CmdWord) : (s.accept rest).rb = s.rb := rfl
@[simp] theorem State.accept_len (s : State) (rest : List CmdWord) : (s.accept rest).len = s.len := rfl
@[simp] theorem State.accept_res (s : State) (rest : List CmdWord) : (s.accept rest).res = s.res := rfl
@[simp] theorem State.accept_trn (s : State) (rest : List CmdWord) : (s.accept rest).trn = s.trn := rfl
@[simp] theorem State.accept_errb (s : State) (rest : List CmdWord) : (s.accept rest).errb = s.errb := rfl
@[simp] theorem State.accept_cls (s : State) (rest : List CmdWord) : (s.accept rest).cls = s.cls := rfl
@[simp] theorem State.accept_ven (s : State) (rest : List CmdWord) : (s.accept rest).ven = s.ven := rfl
@[simp] theorem State.accept_vlen (s : State) (rest : List CmdWord) : (s.accept rest).vlen = s.vlen := rfl
@[simp] theorem State.accept_pro (s : State) (rest : List CmdWord) : (s.accept rest).pro = s.pro := rfl
@[simp] theorem State.accept_plen (s : State) (rest : List CmdWord) : (s.accept rest).plen = s.plen := rfl
@[simp] theorem State.accept_cmb (s : State) (rest : List CmdWord) : (s.accept rest).cmb = s.cmb := rfl
@[simp] theorem State.accept_clen (s : State) (rest : List CmdWord) : (s.accept rest).clen = s.clen := rfl
@[simp] theorem State.accept_cidx (s : State) (rest : List CmdWord) : (s.accept rest).cidx = s.cidx := rfl
@[simp] theorem State.accept_mcnt (s : State) (rest : List CmdWord) : (s.accept rest).mcnt = s.mcnt := rfl
@[simp] theorem State.accept_mlast (s : State) (rest : List CmdWord) : (s.accept rest).mlast = s.mlast := rfl

/-! ## `State.idle` -/

@[simp] theorem State.idle_cfg (s : State) : (s.idle).cfg = s.cfg := rfl
@[simp] theorem State.idle_cmds (s : State) : (s.idle).cmds = s.cmds := rfl
@[simp] theorem State.idle_rsp (s : State) : (s.idle).rsp = none := rfl
@[simp] theorem State.idle_rb (s : State) : (s.idle).rb = s.rb := rfl
@[simp] theorem State.idle_len (s : State) : (s.idle).len = s.len := rfl
@[simp] theorem State.idle_res (s : State) : (s.idle).res = s.res := rfl
@[simp] theorem State.idle_trn (s : State) : (s.idle).trn = s.trn := rfl
@[simp] theorem State.idle_errb (s : State) : (s.idle).errb = s.errb := rfl
@[simp] theorem State.idle_cls (s : State) : (s.idle).cls = s.cls := rfl
@[simp] theorem State.idle_ven (s : State) : (s.idle).ven = s.ven := rfl
@[simp] theorem State.idle_vlen (s : State) : (s.idle).vlen = s.vlen := rfl
@[simp] theorem State.idle_pro (s : State) : (s.idle).pro = s.pro := rfl
@[simp] theorem State.idle_plen (s : State) : (s.idle).plen = s.plen := rfl
@[simp] theorem State.idle_cmb (s : State) : (s.idle).cmb = s.cmb := rfl
@[simp] theorem State.idle_clen (s : State) : (s.idle).clen = s.clen := rfl
@[simp] theorem State.idle_cidx (s : State) : (s.idle).cidx = s.cidx := rfl
@[simp] theorem State.idle_mcnt (s : State) : (s.idle).mcnt = s.mcnt := rfl
@[simp] theorem State.idle_mlast (s : State) : (s.idle).mlast = s.mlast := rfl

/-! ## `State.setResult` -/

@[simp] theorem State.setResult_cfg (s : State) (res : Res) (trn : Transport) (errb : Byte) : (s.setResult res trn errb).cfg = s.cfg := rfl
@[simp] theorem State.setResult_cmds (s : State) (res : Res) (trn : Transport) (errb : Byte) : (s.setResult res trn errb).cmds = s.cmds := rfl
@[simp] theorem State.setResult_rsp (s : State) (res : Res) (trn : Transport) (errb : Byte) : (s.setResult res trn errb).rsp = s.rsp := rfl
@[simp] theorem State.setResult_rb (s : State) (res : Res) (trn : Transport) (errb : Byte) : (s.setResult res trn errb).rb = s.rb := rfl
@[simp] theorem State.setResult_len (s : State) (res : Res) (trn : Transport) (errb : Byte) : (s.setResult res trn errb).len = s.len := rfl
@[simp] theorem State.setResult_res (s : State) (res : Res) (trn : Transport) (errb : Byte) : (s.setResult res trn errb).res = res := rfl
@[simp] theorem State.setResult_trn (s : State) (res : Res) (trn : Transport) (errb : Byte) : (s.setResult res trn errb).trn = trn := rfl
@[simp] theorem State.setResult_errb (s : State) (res : Res) (trn : Transport) (errb : Byte) : (s.setResult res trn errb).errb = errb := rfl
@[simp] theorem State.setResult_cls (s : State) (res : Res) (trn : Transport) (errb : Byte) : (s.setResult res trn errb).cls = s.cls := rfl
@[simp] theorem State.setResult_ven (s : State) (res : Res) (trn : Transport) (errb : Byte) : (s.setResult res trn errb).ven = s.ven := rfl
@[simp] theorem State.setResult_vlen (s : State) (res : Res) (trn : Transport) (errb : Byte) : (s.setResult res trn errb).vlen = s.vlen := rfl
@[simp] theorem State.setResult_pro (s : State) (res : Res) (trn : Transport) (errb : Byte) : (s.setResult res trn errb).pro = s.pro := rfl
@[simp] theorem State.setResult_plen (s : State) (res : Res) (trn : Transport) (errb : Byte) : (s.setResult res trn errb).plen = s.plen := rfl
@[simp] theorem State.setResult_cmb (s : State) (res : Res) (trn : Transport) (errb : Byte) : (s.setResult res trn errb).cmb = s.cmb := rfl
@[simp] theorem State.setResult_clen (s : State) (res : Res) (trn : Transport) (errb : Byte) : (s.setResult res trn errb).clen = s.clen := rfl
@[simp] theorem State.setResult_cidx (s : State) (res : Res) (trn : Transport) (errb : Byte) : (s.setResult res trn errb).cidx = s.cidx := rfl
@[simp] theorem State.setResult_mcnt (s : State) (res : Res) (trn : Transport) (errb : Byte) : (s.setResult res trn errb).mcnt = s.mcnt := rfl
@[simp] theorem State.setResult_mlast (s : State) (res : Res) (trn : Transport) (errb : Byte) : (s.setResult res trn errb).mlast = s.mlast := rfl

/-! ## `State.clearResult` -/

@[simp] theorem State.clearResult_cfg (s : State) : (s.clearResult).cfg = s.cfg := rfl
@[simp] theorem State.clearResult_cmds (s : State) : (s.clearResult).cmds = s.cmds := rfl
@[simp] theorem State.clearResult_rsp (s : State) : (s.clearResult).rsp = s.rsp := rfl
@[simp] theorem State.clearResult_rb (s : State) : (s.clearResult).rb = s.rb := rfl
@[simp] theorem State.clearResult_len (s : State) : (s.clearResult).len = s.len := rfl
@[simp] theorem State.clearResult_res (s : State) : (s.clearResult).res = .none := rfl
@[simp] theorem State.clearResult_trn (s : State) : (s.clearResult).trn = .usb := rfl
@[simp] theorem State.clearResult_errb (s : State) : (s.clearResult).errb = 0x00#8 := rfl
@[simp] theorem State.clearResult_cls (s : State) : (s.clearResult).cls = s.cls := rfl
@[simp] theorem State.clearResult_ven (s : State) : (s.clearResult).ven = s.ven := rfl
@[simp] theorem State.clearResult_vlen (s : State) : (s.clearResult).vlen = s.vlen := rfl
@[simp] theorem State.clearResult_pro (s : State) : (s.clearResult).pro = s.pro := rfl
@[simp] theorem State.clearResult_plen (s : State) : (s.clearResult).plen = s.plen := rfl
@[simp] theorem State.clearResult_cmb (s : State) : (s.clearResult).cmb = s.cmb := rfl
@[simp] theorem State.clearResult_clen (s : State) : (s.clearResult).clen = s.clen := rfl
@[simp] theorem State.clearResult_cidx (s : State) : (s.clearResult).cidx = s.cidx := rfl
@[simp] theorem State.clearResult_mcnt (s : State) : (s.clearResult).mcnt = s.mcnt := rfl
@[simp] theorem State.clearResult_mlast (s : State) : (s.clearResult).mlast = s.mlast := rfl

/-! ## `State.rewind` -/

@[simp] theorem State.rewind_cfg (s : State) : (s.rewind).cfg = s.cfg := rfl
@[simp] theorem State.rewind_cmds (s : State) : (s.rewind).cmds = s.cmds := rfl
@[simp] theorem State.rewind_rsp (s : State) : (s.rewind).rsp = s.rsp := rfl
@[simp] theorem State.rewind_rb (s : State) : (s.rewind).rb = s.rb := rfl
@[simp] theorem State.rewind_len (s : State) : (s.rewind).len = 0#7 := rfl
@[simp] theorem State.rewind_res (s : State) : (s.rewind).res = s.res := rfl
@[simp] theorem State.rewind_trn (s : State) : (s.rewind).trn = s.trn := rfl
@[simp] theorem State.rewind_errb (s : State) : (s.rewind).errb = s.errb := rfl
@[simp] theorem State.rewind_cls (s : State) : (s.rewind).cls = s.cls := rfl
@[simp] theorem State.rewind_ven (s : State) : (s.rewind).ven = s.ven := rfl
@[simp] theorem State.rewind_vlen (s : State) : (s.rewind).vlen = s.vlen := rfl
@[simp] theorem State.rewind_pro (s : State) : (s.rewind).pro = s.pro := rfl
@[simp] theorem State.rewind_plen (s : State) : (s.rewind).plen = s.plen := rfl
@[simp] theorem State.rewind_cmb (s : State) : (s.rewind).cmb = s.cmb := rfl
@[simp] theorem State.rewind_clen (s : State) : (s.rewind).clen = s.clen := rfl
@[simp] theorem State.rewind_cidx (s : State) : (s.rewind).cidx = s.cidx := rfl
@[simp] theorem State.rewind_mcnt (s : State) : (s.rewind).mcnt = s.mcnt := rfl
@[simp] theorem State.rewind_mlast (s : State) : (s.rewind).mlast = s.mlast := rfl

/-! ## `State.beginRecord` -/

@[simp] theorem State.beginRecord_cfg (s : State) (k : DevClass) : (s.beginRecord k).cfg = s.cfg := rfl
@[simp] theorem State.beginRecord_cmds (s : State) (k : DevClass) : (s.beginRecord k).cmds = s.cmds := rfl
@[simp] theorem State.beginRecord_rsp (s : State) (k : DevClass) : (s.beginRecord k).rsp = s.rsp := rfl
@[simp] theorem State.beginRecord_rb (s : State) (k : DevClass) : (s.beginRecord k).rb = s.rb := rfl
@[simp] theorem State.beginRecord_len (s : State) (k : DevClass) : (s.beginRecord k).len = s.len := rfl
@[simp] theorem State.beginRecord_res (s : State) (k : DevClass) : (s.beginRecord k).res = s.res := rfl
@[simp] theorem State.beginRecord_trn (s : State) (k : DevClass) : (s.beginRecord k).trn = s.trn := rfl
@[simp] theorem State.beginRecord_errb (s : State) (k : DevClass) : (s.beginRecord k).errb = s.errb := rfl
@[simp] theorem State.beginRecord_cls (s : State) (k : DevClass) : (s.beginRecord k).cls = k := rfl
@[simp] theorem State.beginRecord_ven (s : State) (k : DevClass) : (s.beginRecord k).ven = s.ven := rfl
@[simp] theorem State.beginRecord_vlen (s : State) (k : DevClass) : (s.beginRecord k).vlen = 0#3 := rfl
@[simp] theorem State.beginRecord_pro (s : State) (k : DevClass) : (s.beginRecord k).pro = s.pro := rfl
@[simp] theorem State.beginRecord_plen (s : State) (k : DevClass) : (s.beginRecord k).plen = 0#3 := rfl
@[simp] theorem State.beginRecord_cmb (s : State) (k : DevClass) : (s.beginRecord k).cmb = s.cmb := rfl
@[simp] theorem State.beginRecord_clen (s : State) (k : DevClass) : (s.beginRecord k).clen = 0 := rfl
@[simp] theorem State.beginRecord_cidx (s : State) (k : DevClass) : (s.beginRecord k).cidx = s.cidx := rfl
@[simp] theorem State.beginRecord_mcnt (s : State) (k : DevClass) : (s.beginRecord k).mcnt = s.mcnt := rfl
@[simp] theorem State.beginRecord_mlast (s : State) (k : DevClass) : (s.beginRecord k).mlast = s.mlast := rfl

/-! ## `State.clearScan` -/

@[simp] theorem State.clearScan_cfg (s : State) : (s.clearScan).cfg = s.cfg := rfl
@[simp] theorem State.clearScan_cmds (s : State) : (s.clearScan).cmds = s.cmds := rfl
@[simp] theorem State.clearScan_rsp (s : State) : (s.clearScan).rsp = s.rsp := rfl
@[simp] theorem State.clearScan_rb (s : State) : (s.clearScan).rb = s.rb := rfl
@[simp] theorem State.clearScan_len (s : State) : (s.clearScan).len = s.len := rfl
@[simp] theorem State.clearScan_res (s : State) : (s.clearScan).res = s.res := rfl
@[simp] theorem State.clearScan_trn (s : State) : (s.clearScan).trn = s.trn := rfl
@[simp] theorem State.clearScan_errb (s : State) : (s.clearScan).errb = s.errb := rfl
@[simp] theorem State.clearScan_cls (s : State) : (s.clearScan).cls = s.cls := rfl
@[simp] theorem State.clearScan_ven (s : State) : (s.clearScan).ven = s.ven := rfl
@[simp] theorem State.clearScan_vlen (s : State) : (s.clearScan).vlen = s.vlen := rfl
@[simp] theorem State.clearScan_pro (s : State) : (s.clearScan).pro = s.pro := rfl
@[simp] theorem State.clearScan_plen (s : State) : (s.clearScan).plen = s.plen := rfl
@[simp] theorem State.clearScan_cmb (s : State) : (s.clearScan).cmb = s.cmb := rfl
@[simp] theorem State.clearScan_clen (s : State) : (s.clearScan).clen = s.clen := rfl
@[simp] theorem State.clearScan_cidx (s : State) : (s.clearScan).cidx = 0#16 := rfl
@[simp] theorem State.clearScan_mcnt (s : State) : (s.clearScan).mcnt = 0#16 := rfl
@[simp] theorem State.clearScan_mlast (s : State) : (s.clearScan).mlast = false := rfl

/-! ## `State.recordTest` -/

@[simp] theorem State.recordTest_cfg (s : State) (m : Bool) : (s.recordTest m).cfg = s.cfg := rfl
@[simp] theorem State.recordTest_cmds (s : State) (m : Bool) : (s.recordTest m).cmds = s.cmds := rfl
@[simp] theorem State.recordTest_rsp (s : State) (m : Bool) : (s.recordTest m).rsp = s.rsp := rfl
@[simp] theorem State.recordTest_rb (s : State) (m : Bool) : (s.recordTest m).rb = s.rb := rfl
@[simp] theorem State.recordTest_len (s : State) (m : Bool) : (s.recordTest m).len = s.len := rfl
@[simp] theorem State.recordTest_res (s : State) (m : Bool) : (s.recordTest m).res = s.res := rfl
@[simp] theorem State.recordTest_trn (s : State) (m : Bool) : (s.recordTest m).trn = s.trn := rfl
@[simp] theorem State.recordTest_errb (s : State) (m : Bool) : (s.recordTest m).errb = s.errb := rfl
@[simp] theorem State.recordTest_cls (s : State) (m : Bool) : (s.recordTest m).cls = s.cls := rfl
@[simp] theorem State.recordTest_ven (s : State) (m : Bool) : (s.recordTest m).ven = s.ven := rfl
@[simp] theorem State.recordTest_vlen (s : State) (m : Bool) : (s.recordTest m).vlen = s.vlen := rfl
@[simp] theorem State.recordTest_pro (s : State) (m : Bool) : (s.recordTest m).pro = s.pro := rfl
@[simp] theorem State.recordTest_plen (s : State) (m : Bool) : (s.recordTest m).plen = s.plen := rfl
@[simp] theorem State.recordTest_cmb (s : State) (m : Bool) : (s.recordTest m).cmb = s.cmb := rfl
@[simp] theorem State.recordTest_clen (s : State) (m : Bool) : (s.recordTest m).clen = s.clen := rfl
@[simp] theorem State.recordTest_cidx (s : State) (m : Bool) : (s.recordTest m).cidx = countUp s.cidx := rfl
@[simp] theorem State.recordTest_mcnt (s : State) (m : Bool) : (s.recordTest m).mcnt = if m then countUp s.mcnt else s.mcnt := rfl
@[simp] theorem State.recordTest_mlast (s : State) (m : Bool) : (s.recordTest m).mlast = m := rfl

/-! ## `State.present` -/

@[simp] theorem State.present_cfg (s : State) (ws : List CmdWord) : (s.present ws).cfg = s.cfg := rfl
@[simp] theorem State.present_cmds (s : State) (ws : List CmdWord) : (s.present ws).cmds = s.cmds ++ ws := rfl
@[simp] theorem State.present_rsp (s : State) (ws : List CmdWord) : (s.present ws).rsp = s.rsp := rfl
@[simp] theorem State.present_rb (s : State) (ws : List CmdWord) : (s.present ws).rb = s.rb := rfl
@[simp] theorem State.present_len (s : State) (ws : List CmdWord) : (s.present ws).len = s.len := rfl
@[simp] theorem State.present_res (s : State) (ws : List CmdWord) : (s.present ws).res = s.res := rfl
@[simp] theorem State.present_trn (s : State) (ws : List CmdWord) : (s.present ws).trn = s.trn := rfl
@[simp] theorem State.present_errb (s : State) (ws : List CmdWord) : (s.present ws).errb = s.errb := rfl
@[simp] theorem State.present_cls (s : State) (ws : List CmdWord) : (s.present ws).cls = s.cls := rfl
@[simp] theorem State.present_ven (s : State) (ws : List CmdWord) : (s.present ws).ven = s.ven := rfl
@[simp] theorem State.present_vlen (s : State) (ws : List CmdWord) : (s.present ws).vlen = s.vlen := rfl
@[simp] theorem State.present_pro (s : State) (ws : List CmdWord) : (s.present ws).pro = s.pro := rfl
@[simp] theorem State.present_plen (s : State) (ws : List CmdWord) : (s.present ws).plen = s.plen := rfl
@[simp] theorem State.present_cmb (s : State) (ws : List CmdWord) : (s.present ws).cmb = s.cmb := rfl
@[simp] theorem State.present_clen (s : State) (ws : List CmdWord) : (s.present ws).clen = s.clen := rfl
@[simp] theorem State.present_cidx (s : State) (ws : List CmdWord) : (s.present ws).cidx = s.cidx := rfl
@[simp] theorem State.present_mcnt (s : State) (ws : List CmdWord) : (s.present ws).mcnt = s.mcnt := rfl
@[simp] theorem State.present_mlast (s : State) (ws : List CmdWord) : (s.present ws).mlast = s.mlast := rfl

/-! ## `State.storeByte`: the fields it leaves alone -/

@[simp] theorem State.storeByte_cfg (s : State) (b : Byte) : (s.storeByte b).cfg = s.cfg := by
  unfold State.storeByte; split <;> rfl
@[simp] theorem State.storeByte_cmds (s : State) (b : Byte) : (s.storeByte b).cmds = s.cmds := by
  unfold State.storeByte; split <;> rfl
@[simp] theorem State.storeByte_rsp (s : State) (b : Byte) : (s.storeByte b).rsp = s.rsp := by
  unfold State.storeByte; split <;> rfl
@[simp] theorem State.storeByte_res (s : State) (b : Byte) : (s.storeByte b).res = s.res := by
  unfold State.storeByte; split <;> rfl
@[simp] theorem State.storeByte_trn (s : State) (b : Byte) : (s.storeByte b).trn = s.trn := by
  unfold State.storeByte; split <;> rfl
@[simp] theorem State.storeByte_errb (s : State) (b : Byte) : (s.storeByte b).errb = s.errb := by
  unfold State.storeByte; split <;> rfl
@[simp] theorem State.storeByte_cls (s : State) (b : Byte) : (s.storeByte b).cls = s.cls := by
  unfold State.storeByte; split <;> rfl
@[simp] theorem State.storeByte_ven (s : State) (b : Byte) : (s.storeByte b).ven = s.ven := by
  unfold State.storeByte; split <;> rfl
@[simp] theorem State.storeByte_vlen (s : State) (b : Byte) : (s.storeByte b).vlen = s.vlen := by
  unfold State.storeByte; split <;> rfl
@[simp] theorem State.storeByte_pro (s : State) (b : Byte) : (s.storeByte b).pro = s.pro := by
  unfold State.storeByte; split <;> rfl
@[simp] theorem State.storeByte_plen (s : State) (b : Byte) : (s.storeByte b).plen = s.plen := by
  unfold State.storeByte; split <;> rfl
@[simp] theorem State.storeByte_cmb (s : State) (b : Byte) : (s.storeByte b).cmb = s.cmb := by
  unfold State.storeByte; split <;> rfl
@[simp] theorem State.storeByte_clen (s : State) (b : Byte) : (s.storeByte b).clen = s.clen := by
  unfold State.storeByte; split <;> rfl
@[simp] theorem State.storeByte_cidx (s : State) (b : Byte) : (s.storeByte b).cidx = s.cidx := by
  unfold State.storeByte; split <;> rfl
@[simp] theorem State.storeByte_mcnt (s : State) (b : Byte) : (s.storeByte b).mcnt = s.mcnt := by
  unfold State.storeByte; split <;> rfl
@[simp] theorem State.storeByte_mlast (s : State) (b : Byte) : (s.storeByte b).mlast = s.mlast := by
  unfold State.storeByte; split <;> rfl

/-! ## `State.appendVen`: the fields it leaves alone -/

@[simp] theorem State.appendVen_cfg (s : State) (c : Byte) : (s.appendVen c).cfg = s.cfg := by
  unfold State.appendVen; split <;> rfl
@[simp] theorem State.appendVen_cmds (s : State) (c : Byte) : (s.appendVen c).cmds = s.cmds := by
  unfold State.appendVen; split <;> rfl
@[simp] theorem State.appendVen_rsp (s : State) (c : Byte) : (s.appendVen c).rsp = s.rsp := by
  unfold State.appendVen; split <;> rfl
@[simp] theorem State.appendVen_rb (s : State) (c : Byte) : (s.appendVen c).rb = s.rb := by
  unfold State.appendVen; split <;> rfl
@[simp] theorem State.appendVen_len (s : State) (c : Byte) : (s.appendVen c).len = s.len := by
  unfold State.appendVen; split <;> rfl
@[simp] theorem State.appendVen_res (s : State) (c : Byte) : (s.appendVen c).res = s.res := by
  unfold State.appendVen; split <;> rfl
@[simp] theorem State.appendVen_trn (s : State) (c : Byte) : (s.appendVen c).trn = s.trn := by
  unfold State.appendVen; split <;> rfl
@[simp] theorem State.appendVen_errb (s : State) (c : Byte) : (s.appendVen c).errb = s.errb := by
  unfold State.appendVen; split <;> rfl
@[simp] theorem State.appendVen_cls (s : State) (c : Byte) : (s.appendVen c).cls = s.cls := by
  unfold State.appendVen; split <;> rfl
@[simp] theorem State.appendVen_pro (s : State) (c : Byte) : (s.appendVen c).pro = s.pro := by
  unfold State.appendVen; split <;> rfl
@[simp] theorem State.appendVen_plen (s : State) (c : Byte) : (s.appendVen c).plen = s.plen := by
  unfold State.appendVen; split <;> rfl
@[simp] theorem State.appendVen_cmb (s : State) (c : Byte) : (s.appendVen c).cmb = s.cmb := by
  unfold State.appendVen; split <;> rfl
@[simp] theorem State.appendVen_clen (s : State) (c : Byte) : (s.appendVen c).clen = s.clen := by
  unfold State.appendVen; split <;> rfl
@[simp] theorem State.appendVen_cidx (s : State) (c : Byte) : (s.appendVen c).cidx = s.cidx := by
  unfold State.appendVen; split <;> rfl
@[simp] theorem State.appendVen_mcnt (s : State) (c : Byte) : (s.appendVen c).mcnt = s.mcnt := by
  unfold State.appendVen; split <;> rfl
@[simp] theorem State.appendVen_mlast (s : State) (c : Byte) : (s.appendVen c).mlast = s.mlast := by
  unfold State.appendVen; split <;> rfl

/-! ## `State.appendPro`: the fields it leaves alone -/

@[simp] theorem State.appendPro_cfg (s : State) (c : Byte) : (s.appendPro c).cfg = s.cfg := by
  unfold State.appendPro; split <;> rfl
@[simp] theorem State.appendPro_cmds (s : State) (c : Byte) : (s.appendPro c).cmds = s.cmds := by
  unfold State.appendPro; split <;> rfl
@[simp] theorem State.appendPro_rsp (s : State) (c : Byte) : (s.appendPro c).rsp = s.rsp := by
  unfold State.appendPro; split <;> rfl
@[simp] theorem State.appendPro_rb (s : State) (c : Byte) : (s.appendPro c).rb = s.rb := by
  unfold State.appendPro; split <;> rfl
@[simp] theorem State.appendPro_len (s : State) (c : Byte) : (s.appendPro c).len = s.len := by
  unfold State.appendPro; split <;> rfl
@[simp] theorem State.appendPro_res (s : State) (c : Byte) : (s.appendPro c).res = s.res := by
  unfold State.appendPro; split <;> rfl
@[simp] theorem State.appendPro_trn (s : State) (c : Byte) : (s.appendPro c).trn = s.trn := by
  unfold State.appendPro; split <;> rfl
@[simp] theorem State.appendPro_errb (s : State) (c : Byte) : (s.appendPro c).errb = s.errb := by
  unfold State.appendPro; split <;> rfl
@[simp] theorem State.appendPro_cls (s : State) (c : Byte) : (s.appendPro c).cls = s.cls := by
  unfold State.appendPro; split <;> rfl
@[simp] theorem State.appendPro_ven (s : State) (c : Byte) : (s.appendPro c).ven = s.ven := by
  unfold State.appendPro; split <;> rfl
@[simp] theorem State.appendPro_vlen (s : State) (c : Byte) : (s.appendPro c).vlen = s.vlen := by
  unfold State.appendPro; split <;> rfl
@[simp] theorem State.appendPro_cmb (s : State) (c : Byte) : (s.appendPro c).cmb = s.cmb := by
  unfold State.appendPro; split <;> rfl
@[simp] theorem State.appendPro_clen (s : State) (c : Byte) : (s.appendPro c).clen = s.clen := by
  unfold State.appendPro; split <;> rfl
@[simp] theorem State.appendPro_cidx (s : State) (c : Byte) : (s.appendPro c).cidx = s.cidx := by
  unfold State.appendPro; split <;> rfl
@[simp] theorem State.appendPro_mcnt (s : State) (c : Byte) : (s.appendPro c).mcnt = s.mcnt := by
  unfold State.appendPro; split <;> rfl
@[simp] theorem State.appendPro_mlast (s : State) (c : Byte) : (s.appendPro c).mlast = s.mlast := by
  unfold State.appendPro; split <;> rfl

/-! ## `State.appendCmb`: the fields it leaves alone -/

@[simp] theorem State.appendCmb_cfg (s : State) (c : Byte) : (s.appendCmb c).cfg = s.cfg := by
  unfold State.appendCmb; split <;> rfl
@[simp] theorem State.appendCmb_cmds (s : State) (c : Byte) : (s.appendCmb c).cmds = s.cmds := by
  unfold State.appendCmb; split <;> rfl
@[simp] theorem State.appendCmb_rsp (s : State) (c : Byte) : (s.appendCmb c).rsp = s.rsp := by
  unfold State.appendCmb; split <;> rfl
@[simp] theorem State.appendCmb_rb (s : State) (c : Byte) : (s.appendCmb c).rb = s.rb := by
  unfold State.appendCmb; split <;> rfl
@[simp] theorem State.appendCmb_len (s : State) (c : Byte) : (s.appendCmb c).len = s.len := by
  unfold State.appendCmb; split <;> rfl
@[simp] theorem State.appendCmb_res (s : State) (c : Byte) : (s.appendCmb c).res = s.res := by
  unfold State.appendCmb; split <;> rfl
@[simp] theorem State.appendCmb_trn (s : State) (c : Byte) : (s.appendCmb c).trn = s.trn := by
  unfold State.appendCmb; split <;> rfl
@[simp] theorem State.appendCmb_errb (s : State) (c : Byte) : (s.appendCmb c).errb = s.errb := by
  unfold State.appendCmb; split <;> rfl
@[simp] theorem State.appendCmb_cls (s : State) (c : Byte) : (s.appendCmb c).cls = s.cls := by
  unfold State.appendCmb; split <;> rfl
@[simp] theorem State.appendCmb_ven (s : State) (c : Byte) : (s.appendCmb c).ven = s.ven := by
  unfold State.appendCmb; split <;> rfl
@[simp] theorem State.appendCmb_vlen (s : State) (c : Byte) : (s.appendCmb c).vlen = s.vlen := by
  unfold State.appendCmb; split <;> rfl
@[simp] theorem State.appendCmb_pro (s : State) (c : Byte) : (s.appendCmb c).pro = s.pro := by
  unfold State.appendCmb; split <;> rfl
@[simp] theorem State.appendCmb_plen (s : State) (c : Byte) : (s.appendCmb c).plen = s.plen := by
  unfold State.appendCmb; split <;> rfl
@[simp] theorem State.appendCmb_cidx (s : State) (c : Byte) : (s.appendCmb c).cidx = s.cidx := by
  unfold State.appendCmb; split <;> rfl
@[simp] theorem State.appendCmb_mcnt (s : State) (c : Byte) : (s.appendCmb c).mcnt = s.mcnt := by
  unfold State.appendCmb; split <;> rfl
@[simp] theorem State.appendCmb_mlast (s : State) (c : Byte) : (s.appendCmb c).mlast = s.mlast := by
  unfold State.appendCmb; split <;> rfl

/-! ## `State.resetWith` -/

@[simp] theorem State.resetWith_cfg (c : Config) : (State.resetWith c).cfg = c := rfl
@[simp] theorem State.resetWith_cmds (c : Config) : (State.resetWith c).cmds = [] := rfl
@[simp] theorem State.resetWith_rsp (c : Config) : (State.resetWith c).rsp = none := rfl
@[simp] theorem State.resetWith_rb (c : Config) : (State.resetWith c).rb = [] := rfl
@[simp] theorem State.resetWith_len (c : Config) : (State.resetWith c).len = 0#7 := rfl
@[simp] theorem State.resetWith_res (c : Config) : (State.resetWith c).res = .none := rfl
@[simp] theorem State.resetWith_trn (c : Config) : (State.resetWith c).trn = .usb := rfl
@[simp] theorem State.resetWith_errb (c : Config) : (State.resetWith c).errb = 0x00#8 := rfl
@[simp] theorem State.resetWith_cls (c : Config) : (State.resetWith c).cls = .other := rfl
@[simp] theorem State.resetWith_ven (c : Config) : (State.resetWith c).ven = [] := rfl
@[simp] theorem State.resetWith_vlen (c : Config) : (State.resetWith c).vlen = 0#3 := rfl
@[simp] theorem State.resetWith_pro (c : Config) : (State.resetWith c).pro = [] := rfl
@[simp] theorem State.resetWith_plen (c : Config) : (State.resetWith c).plen = 0#3 := rfl
@[simp] theorem State.resetWith_cmb (c : Config) : (State.resetWith c).cmb = [] := rfl
@[simp] theorem State.resetWith_clen (c : Config) : (State.resetWith c).clen = 0 := rfl
@[simp] theorem State.resetWith_cidx (c : Config) : (State.resetWith c).cidx = 0#16 := rfl
@[simp] theorem State.resetWith_mcnt (c : Config) : (State.resetWith c).mcnt = 0#16 := rfl
@[simp] theorem State.resetWith_mlast (c : Config) : (State.resetWith c).mlast = false := rfl

end Sys2Proof.Machine
end

