-- ==== Sys2Proof/Laws/Ops.lean ====
section
/-! SUPPORT. One lemma per shared operation that says once everything it can do; proofs cite it and do not unfold the
operation. -/

namespace Sys2Proof.Machine

/-! ## The response port -/

/-- `respond` answers exactly the state with `OK` and the value on the port. -/
theorem State.respond_next {s t : State} {v : RspData} :
    s.respond v = .next t ↔ t = s.answer ⟨.ok, v⟩ := by
  simp [State.respond, eq_comm]

/-- `raise` answers exactly the state with the condition and its data on the port. -/
theorem State.raise_next {s t : State} {c : RspCode} {v : RspData} :
    s.raise c v = .next t ↔ t = s.answer ⟨c, v⟩ := by
  simp [State.raise, eq_comm]

/-- A reserved word answers `F_ILLEGAL_CMD` with the word and changes nothing else. -/
theorem State.illegalCommand_next {s t : State} {w : CmdWord} :
    s.illegalCommand w = .next t ↔ t = s.answer ⟨.fIllegalCmd, w.setWidth 32⟩ :=
  State.raise_next

@[simp] theorem State.whenDecoded_ok {s : State} (h : s.res = .ok) (a : Answer) : s.whenDecoded a = a := by
  simp [State.whenDecoded, h]

/-- Before a successful decode every accessor raises `F_NOT_DECODED` with `RES`. -/
theorem State.whenDecoded_not_ok {s : State} (h : s.res ≠ .ok) (a : Answer) :
    s.whenDecoded a = .next (s.answer ⟨.fNotDecoded, s.res.bits.setWidth 32⟩) := by
  simp [State.whenDecoded, h, State.raise]

/-- All that a readout can answer. -/
theorem State.readout_next {s t : State} {v : RspData} (h : s.readout v = .next t) :
    (s.res = .ok ∧ t = s.answer ⟨.ok, v⟩) ∨
      (s.res ≠ .ok ∧ t = s.answer ⟨.fNotDecoded, s.res.bits.setWidth 32⟩) := by
  by_cases hr : s.res = .ok
  · rw [State.readout, State.whenDecoded_ok hr, State.respond_next] at h; exact .inl ⟨hr, h⟩
  · rw [State.readout, State.whenDecoded_not_ok hr] at h
    injection h with h
    exact .inr ⟨hr, h.symm⟩

/-- A readout of a decoded report answers `OK` and the value. -/
theorem State.readout_ok {s : State} (h : s.res = .ok) (v : RspData) :
    s.readout v = .next (s.answer ⟨.ok, v⟩) := by
  simp [State.readout, State.whenDecoded_ok h, State.respond]

@[simp] theorem State.whenDim_present {s : State} (h : s.cfg.hasDim = true) (w : CmdWord) (a : Answer) :
    s.whenDim w a = a := by
  simp [State.whenDim, h]

/-- Without the DIM unit its words answer `F_ILLEGAL_CMD`. -/
theorem State.whenDim_absent {s : State} (h : s.cfg.hasDim = false) (w : CmdWord) (a : Answer) :
    s.whenDim w a = .next (s.answer ⟨.fIllegalCmd, w.setWidth 32⟩) := by
  simp [State.whenDim, h, State.illegalCommand, State.raise]

/-! ## The report registers -/

/-- A full buffer takes no more bytes. -/
theorem State.storeByte_full {s : State} (h : s.full = true) (b : Byte) : s.storeByte b = s := by
  simp [State.storeByte, h]

theorem State.full_iff {s : State} : s.full = true ↔ reportLen ≤ s.len.toNat := by
  simp [State.full]

theorem State.not_full_iff {s : State} : s.full = false ↔ s.len.toNat < reportLen := by
  simp [State.full]

/-- All that storing a byte does while the buffer is not full. -/
theorem State.storeByte_room {s : State} (h : s.len.toNat < reportLen) (b : Byte) :
    (s.storeByte b).len.toNat = s.len.toNat + 1 ∧
      ∀ a, (s.storeByte b).rb.read a = if a = s.len.toNat then b else s.rb.read a := by
  have hf : s.full = false := State.not_full_iff.mpr h
  have h64 : s.len.toNat < 64 := h
  refine ⟨?_, fun a => ?_⟩
  · simp only [State.storeByte, hf, Bool.false_eq_true, if_false, BitVec.toNat_add, BitVec.toNat_ofNat]
    omega
  · simp [State.storeByte, hf, Memory.read_write]

/-- Storing a byte keeps the canonical form of the buffer. -/
theorem State.storeByte_rb_wf {s : State} (b : Byte) (h : s.rb.wf reportLen = true) :
    (s.storeByte b).rb.wf reportLen = true := by
  unfold State.storeByte
  split
  next => exact h
  next hf =>
    have hf' : s.full = false := by simpa using hf
    exact Memory.wf_write b h (State.not_full_iff.mp hf')

/-! ## The DIM registers -/

/-- A counter counts up by one and stops at 0xFFFF. -/
theorem countUp_toNat (n : BitVec 16) : (countUp n).toNat = min (n.toNat + 1) 0xFFFF := by
  unfold countUp
  split
  next h => subst h; rfl
  next h =>
    have h1 : n.toNat < 65536 := n.isLt
    have h2 : n.toNat ≠ 65535 := fun e => h (BitVec.eq_of_toNat_eq (by simpa using e))
    simp only [BitVec.toNat_add, BitVec.toNat_ofNat]
    omega

/-- All that appending to the vendor-ID string does. -/
theorem State.appendVen_spec (s : State) (c : Byte) :
    (s.vlen.toNat < 4 → (s.appendVen c).vlen.toNat = s.vlen.toNat + 1 ∧
      ∀ a, (s.appendVen c).ven.read a = if a = s.vlen.toNat then c else s.ven.read a) ∧
    (4 ≤ s.vlen.toNat → (s.appendVen c).vlen = 5#3 ∧ (s.appendVen c).ven = s.ven) := by
  refine ⟨fun h => ⟨?_, fun a => ?_⟩, fun h => ?_⟩
  · simp only [State.appendVen, h, if_true, BitVec.toNat_add, BitVec.toNat_ofNat]; omega
  · simp [State.appendVen, h, Memory.read_write]
  · simp [State.appendVen, Nat.not_lt.mpr h]

/-- All that appending to the product-ID string does. -/
theorem State.appendPro_spec (s : State) (c : Byte) :
    (s.plen.toNat < 4 → (s.appendPro c).plen.toNat = s.plen.toNat + 1 ∧
      ∀ a, (s.appendPro c).pro.read a = if a = s.plen.toNat then c else s.pro.read a) ∧
    (4 ≤ s.plen.toNat → (s.appendPro c).plen = 5#3 ∧ (s.appendPro c).pro = s.pro) := by
  refine ⟨fun h => ⟨?_, fun a => ?_⟩, fun h => ?_⟩
  · simp only [State.appendPro, h, if_true, BitVec.toNat_add, BitVec.toNat_ofNat]; omega
  · simp [State.appendPro, h, Memory.read_write]
  · simp [State.appendPro, Nat.not_lt.mpr h]

/-- All that appending to the combined identity string does. -/
theorem State.appendCmb_spec (s : State) (c : Byte) :
    (s.clen < s.cfg.ccap → (s.appendCmb c).clen = s.clen + 1 ∧
      ∀ a, (s.appendCmb c).cmb.read a = if a = s.clen then c else s.cmb.read a) ∧
    (s.cfg.ccap ≤ s.clen → (s.appendCmb c).clen = s.cfg.ccap + 1 ∧ (s.appendCmb c).cmb = s.cmb) := by
  refine ⟨fun h => ⟨?_, fun a => ?_⟩, fun h => ?_⟩
  · simp [State.appendCmb, h]
  · simp [State.appendCmb, h, Memory.read_write]
  · simp [State.appendCmb, Nat.not_lt.mpr h]

/-- Appending keeps the canonical form of the string registers. -/
theorem State.appendVen_wf {s : State} (c : Byte) (h : s.ven.wf 4 = true) : (s.appendVen c).ven.wf 4 = true := by
  unfold State.appendVen; split
  next hl => exact Memory.wf_write c h hl
  next => exact h

theorem State.appendPro_wf {s : State} (c : Byte) (h : s.pro.wf 4 = true) : (s.appendPro c).pro.wf 4 = true := by
  unfold State.appendPro; split
  next hl => exact Memory.wf_write c h hl
  next => exact h

theorem State.appendCmb_wf {s : State} (c : Byte) (h : s.cmb.wf s.cfg.ccap = true) :
    (s.appendCmb c).cmb.wf s.cfg.ccap = true := by
  unfold State.appendCmb; split
  next hl => exact Memory.wf_write c h hl
  next => exact h

/-! ## Reset -/

/-- Every byte register is canonical right after reset. -/
theorem State.reset_memory_wf :
    State.reset.rb.wf reportLen = true ∧ State.reset.ven.wf 4 = true ∧ State.reset.pro.wf 4 = true ∧
      State.reset.cmb.wf State.reset.cfg.ccap = true :=
  ⟨rfl, rfl, rfl, rfl⟩

end Sys2Proof.Machine
end

