-- ==== Sys2Proof/Laws/PerInstr.lean ====
section
/-! SUPPORT. The family `FitsOpcodeTable`: every instruction's word has the match and mask of its row of
spec/opcode_table.json, written out here from the table, row by row. -/

namespace Sys2Proof.Laws

/-- The "match" and "mask" of the instruction's row of spec/opcode_table.json. -/
def tableRow : Instr → CmdWord × CmdWord
  | .clr => (0x0000#16, 0xFFFF#16)
  | .push _ => (0x0100#16, 0xFF00#16)
  | .dec => (0x0200#16, 0xFFFF#16)
  | .stat => (0x0400#16, 0xFFFF#16)
  | .rdTrn => (0x0300#16, 0xFFFF#16)
  | .rdSeq => (0x0301#16, 0xFFFF#16)
  | .rdLx => (0x0302#16, 0xFFFF#16)
  | .rdLy => (0x0303#16, 0xFFFF#16)
  | .rdRx => (0x0304#16, 0xFFFF#16)
  | .rdRy => (0x0305#16, 0xFFFF#16)
  | .rdTl => (0x0306#16, 0xFFFF#16)
  | .rdTr => (0x0307#16, 0xFFFF#16)
  | .rdDpad => (0x0308#16, 0xFFFF#16)
  | .rdDpadraw => (0x0309#16, 0xFFFF#16)
  | .rdSquare => (0x030C#16, 0xFFFF#16)
  | .rdCross => (0x030D#16, 0xFFFF#16)
  | .rdCircle => (0x030E#16, 0xFFFF#16)
  | .rdTriangle => (0x030F#16, 0xFFFF#16)
  | .rdL1 => (0x0310#16, 0xFFFF#16)
  | .rdR1 => (0x0311#16, 0xFFFF#16)
  | .rdL2b => (0x0312#16, 0xFFFF#16)
  | .rdR2b => (0x0313#16, 0xFFFF#16)
  | .rdCreate => (0x0314#16, 0xFFFF#16)
  | .rdOptions => (0x0315#16, 0xFFFF#16)
  | .rdL3 => (0x0316#16, 0xFFFF#16)
  | .rdR3 => (0x0317#16, 0xFFFF#16)
  | .rdHome => (0x0318#16, 0xFFFF#16)
  | .rdTpclick => (0x0319#16, 0xFFFF#16)
  | .rdMicbtn => (0x031A#16, 0xFFFF#16)
  | .rdGx => (0x0320#16, 0xFFFF#16)
  | .rdGy => (0x0321#16, 0xFFFF#16)
  | .rdGz => (0x0322#16, 0xFFFF#16)
  | .rdAx => (0x0323#16, 0xFFFF#16)
  | .rdAy => (0x0324#16, 0xFFFF#16)
  | .rdAz => (0x0325#16, 0xFFFF#16)
  | .rdTs => (0x0326#16, 0xFFFF#16)
  | .rdT0act => (0x0328#16, 0xFFFF#16)
  | .rdT0cnt => (0x0329#16, 0xFFFF#16)
  | .rdT0x => (0x032A#16, 0xFFFF#16)
  | .rdT0y => (0x032B#16, 0xFFFF#16)
  | .rdT1act => (0x032C#16, 0xFFFF#16)
  | .rdT1cnt => (0x032D#16, 0xFFFF#16)
  | .rdT1x => (0x032E#16, 0xFFFF#16)
  | .rdT1y => (0x032F#16, 0xFFFF#16)
  | .rdBatt => (0x0330#16, 0xFFFF#16)
  | .rdChg => (0x0331#16, 0xFFFF#16)
  | .rdChgraw => (0x0332#16, 0xFFFF#16)
  | .rdCap => (0x0333#16, 0xFFFF#16)
  | .rdPeriph => (0x0334#16, 0xFFFF#16)
  | .rdCmac0 => (0x0338#16, 0xFFFF#16)
  | .rdCmac1 => (0x0339#16, 0xFFFF#16)
  | .rdCmac2 => (0x033A#16, 0xFFFF#16)
  | .rdCmac3 => (0x033B#16, 0xFFFF#16)
  | .rdCmac4 => (0x033C#16, 0xFFFF#16)
  | .rdCmac5 => (0x033D#16, 0xFFFF#16)
  | .rdCmac6 => (0x033E#16, 0xFFFF#16)
  | .rdCmac7 => (0x033F#16, 0xFFFF#16)
  | .rdRaw0 => (0x0340#16, 0xFFFF#16)
  | .rdRaw1 => (0x0341#16, 0xFFFF#16)
  | .rdRaw2 => (0x0342#16, 0xFFFF#16)
  | .rdRaw3 => (0x0343#16, 0xFFFF#16)
  | .rdRaw4 => (0x0344#16, 0xFFFF#16)
  | .rdRaw5 => (0x0345#16, 0xFFFF#16)
  | .rdRaw6 => (0x0346#16, 0xFFFF#16)
  | .rdRaw7 => (0x0347#16, 0xFFFF#16)
  | .rdRaw8 => (0x0348#16, 0xFFFF#16)
  | .rdRaw9 => (0x0349#16, 0xFFFF#16)
  | .rdRaw10 => (0x034A#16, 0xFFFF#16)
  | .rdRaw11 => (0x034B#16, 0xFFFF#16)
  | .rdRaw12 => (0x034C#16, 0xFFFF#16)
  | .rdRaw13 => (0x034D#16, 0xFFFF#16)
  | .rdRaw14 => (0x034E#16, 0xFFFF#16)
  | .rdRaw15 => (0x034F#16, 0xFFFF#16)
  | .rdRaw16 => (0x0350#16, 0xFFFF#16)
  | .rdRaw17 => (0x0351#16, 0xFFFF#16)
  | .rdRaw18 => (0x0352#16, 0xFFFF#16)
  | .rdRaw19 => (0x0353#16, 0xFFFF#16)
  | .rdRaw20 => (0x0354#16, 0xFFFF#16)
  | .rdRaw21 => (0x0355#16, 0xFFFF#16)
  | .rdRaw22 => (0x0356#16, 0xFFFF#16)
  | .rdRaw23 => (0x0357#16, 0xFFFF#16)
  | .rdRaw24 => (0x0358#16, 0xFFFF#16)
  | .rdRaw25 => (0x0359#16, 0xFFFF#16)
  | .rdRaw26 => (0x035A#16, 0xFFFF#16)
  | .rdRaw27 => (0x035B#16, 0xFFFF#16)
  | .rdRaw28 => (0x035C#16, 0xFFFF#16)
  | .rdRaw29 => (0x035D#16, 0xFFFF#16)
  | .rdRaw30 => (0x035E#16, 0xFFFF#16)
  | .rdRaw31 => (0x035F#16, 0xFFFF#16)
  | .rdRaw32 => (0x0360#16, 0xFFFF#16)
  | .rdRaw33 => (0x0361#16, 0xFFFF#16)
  | .rdRaw34 => (0x0362#16, 0xFFFF#16)
  | .rdRaw35 => (0x0363#16, 0xFFFF#16)
  | .rdRaw36 => (0x0364#16, 0xFFFF#16)
  | .rdRaw37 => (0x0365#16, 0xFFFF#16)
  | .rdRaw38 => (0x0366#16, 0xFFFF#16)
  | .rdRaw39 => (0x0367#16, 0xFFFF#16)
  | .rdRaw40 => (0x0368#16, 0xFFFF#16)
  | .rdRaw41 => (0x0369#16, 0xFFFF#16)
  | .rdRaw42 => (0x036A#16, 0xFFFF#16)
  | .rdRaw43 => (0x036B#16, 0xFFFF#16)
  | .rdRaw44 => (0x036C#16, 0xFFFF#16)
  | .rdRaw45 => (0x036D#16, 0xFFFF#16)
  | .rdRaw46 => (0x036E#16, 0xFFFF#16)
  | .rdRaw47 => (0x036F#16, 0xFFFF#16)
  | .rdRaw48 => (0x0370#16, 0xFFFF#16)
  | .rdRaw49 => (0x0371#16, 0xFFFF#16)
  | .rdRaw50 => (0x0372#16, 0xFFFF#16)
  | .rdRaw51 => (0x0373#16, 0xFFFF#16)
  | .rdRaw52 => (0x0374#16, 0xFFFF#16)
  | .rdRaw53 => (0x0375#16, 0xFFFF#16)
  | .rdRaw54 => (0x0376#16, 0xFFFF#16)
  | .rdRaw55 => (0x0377#16, 0xFFFF#16)
  | .rdRaw56 => (0x0378#16, 0xFFFF#16)
  | .rdRaw57 => (0x0379#16, 0xFFFF#16)
  | .rdRaw58 => (0x037A#16, 0xFFFF#16)
  | .rdRaw59 => (0x037B#16, 0xFFFF#16)
  | .rdRaw60 => (0x037C#16, 0xFFFF#16)
  | .rdRaw61 => (0x037D#16, 0xFFFF#16)
  | .rdRaw62 => (0x037E#16, 0xFFFF#16)
  | .mrst => (0x1000#16, 0xFFFF#16)
  | .mcls0 => (0x1100#16, 0xFFFF#16)
  | .mcls1 => (0x1101#16, 0xFFFF#16)
  | .mcls2 => (0x1102#16, 0xFFFF#16)
  | .mven _ => (0x1200#16, 0xFF00#16)
  | .mpro _ => (0x1300#16, 0xFF00#16)
  | .mcmb _ => (0x1400#16, 0xFF00#16)
  | .mtest => (0x1500#16, 0xFFFF#16)
  | .mstat => (0x1600#16, 0xFFFF#16)

namespace FitsOpcodeTable

/-- The word of `i`, under its row's mask, is its row's match. -/
def Statement (i : Instr) : Prop := encode i &&& (tableRow i).2 = (tableRow i).1

theorem clr : Statement .clr := rfl
theorem push (b : Byte) : Statement (.push b) := by
  simp only [Statement, encode, tableRow, cmdWord]; revert b; decide
theorem dec : Statement .dec := rfl
theorem stat : Statement .stat := rfl
theorem rdTrn : Statement .rdTrn := rfl
theorem rdSeq : Statement .rdSeq := rfl
theorem rdLx : Statement .rdLx := rfl
theorem rdLy : Statement .rdLy := rfl
theorem rdRx : Statement .rdRx := rfl
theorem rdRy : Statement .rdRy := rfl
theorem rdTl : Statement .rdTl := rfl
theorem rdTr : Statement .rdTr := rfl
theorem rdDpad : Statement .rdDpad := rfl
theorem rdDpadraw : Statement .rdDpadraw := rfl
theorem rdSquare : Statement .rdSquare := rfl
theorem rdCross : Statement .rdCross := rfl
theorem rdCircle : Statement .rdCircle := rfl
theorem rdTriangle : Statement .rdTriangle := rfl
theorem rdL1 : Statement .rdL1 := rfl
theorem rdR1 : Statement .rdR1 := rfl
theorem rdL2b : Statement .rdL2b := rfl
theorem rdR2b : Statement .rdR2b := rfl
theorem rdCreate : Statement .rdCreate := rfl
theorem rdOptions : Statement .rdOptions := rfl
theorem rdL3 : Statement .rdL3 := rfl
theorem rdR3 : Statement .rdR3 := rfl
theorem rdHome : Statement .rdHome := rfl
theorem rdTpclick : Statement .rdTpclick := rfl
theorem rdMicbtn : Statement .rdMicbtn := rfl
theorem rdGx : Statement .rdGx := rfl
theorem rdGy : Statement .rdGy := rfl
theorem rdGz : Statement .rdGz := rfl
theorem rdAx : Statement .rdAx := rfl
theorem rdAy : Statement .rdAy := rfl
theorem rdAz : Statement .rdAz := rfl
theorem rdTs : Statement .rdTs := rfl
theorem rdT0act : Statement .rdT0act := rfl
theorem rdT0cnt : Statement .rdT0cnt := rfl
theorem rdT0x : Statement .rdT0x := rfl
theorem rdT0y : Statement .rdT0y := rfl
theorem rdT1act : Statement .rdT1act := rfl
theorem rdT1cnt : Statement .rdT1cnt := rfl
theorem rdT1x : Statement .rdT1x := rfl
theorem rdT1y : Statement .rdT1y := rfl
theorem rdBatt : Statement .rdBatt := rfl
theorem rdChg : Statement .rdChg := rfl
theorem rdChgraw : Statement .rdChgraw := rfl
theorem rdCap : Statement .rdCap := rfl
theorem rdPeriph : Statement .rdPeriph := rfl
theorem rdCmac0 : Statement .rdCmac0 := rfl
theorem rdCmac1 : Statement .rdCmac1 := rfl
theorem rdCmac2 : Statement .rdCmac2 := rfl
theorem rdCmac3 : Statement .rdCmac3 := rfl
theorem rdCmac4 : Statement .rdCmac4 := rfl
theorem rdCmac5 : Statement .rdCmac5 := rfl
theorem rdCmac6 : Statement .rdCmac6 := rfl
theorem rdCmac7 : Statement .rdCmac7 := rfl
theorem rdRaw0 : Statement .rdRaw0 := rfl
theorem rdRaw1 : Statement .rdRaw1 := rfl
theorem rdRaw2 : Statement .rdRaw2 := rfl
theorem rdRaw3 : Statement .rdRaw3 := rfl
theorem rdRaw4 : Statement .rdRaw4 := rfl
theorem rdRaw5 : Statement .rdRaw5 := rfl
theorem rdRaw6 : Statement .rdRaw6 := rfl
theorem rdRaw7 : Statement .rdRaw7 := rfl
theorem rdRaw8 : Statement .rdRaw8 := rfl
theorem rdRaw9 : Statement .rdRaw9 := rfl
theorem rdRaw10 : Statement .rdRaw10 := rfl
theorem rdRaw11 : Statement .rdRaw11 := rfl
theorem rdRaw12 : Statement .rdRaw12 := rfl
theorem rdRaw13 : Statement .rdRaw13 := rfl
theorem rdRaw14 : Statement .rdRaw14 := rfl
theorem rdRaw15 : Statement .rdRaw15 := rfl
theorem rdRaw16 : Statement .rdRaw16 := rfl
theorem rdRaw17 : Statement .rdRaw17 := rfl
theorem rdRaw18 : Statement .rdRaw18 := rfl
theorem rdRaw19 : Statement .rdRaw19 := rfl
theorem rdRaw20 : Statement .rdRaw20 := rfl
theorem rdRaw21 : Statement .rdRaw21 := rfl
theorem rdRaw22 : Statement .rdRaw22 := rfl
theorem rdRaw23 : Statement .rdRaw23 := rfl
theorem rdRaw24 : Statement .rdRaw24 := rfl
theorem rdRaw25 : Statement .rdRaw25 := rfl
theorem rdRaw26 : Statement .rdRaw26 := rfl
theorem rdRaw27 : Statement .rdRaw27 := rfl
theorem rdRaw28 : Statement .rdRaw28 := rfl
theorem rdRaw29 : Statement .rdRaw29 := rfl
theorem rdRaw30 : Statement .rdRaw30 := rfl
theorem rdRaw31 : Statement .rdRaw31 := rfl
theorem rdRaw32 : Statement .rdRaw32 := rfl
theorem rdRaw33 : Statement .rdRaw33 := rfl
theorem rdRaw34 : Statement .rdRaw34 := rfl
theorem rdRaw35 : Statement .rdRaw35 := rfl
theorem rdRaw36 : Statement .rdRaw36 := rfl
theorem rdRaw37 : Statement .rdRaw37 := rfl
theorem rdRaw38 : Statement .rdRaw38 := rfl
theorem rdRaw39 : Statement .rdRaw39 := rfl
theorem rdRaw40 : Statement .rdRaw40 := rfl
theorem rdRaw41 : Statement .rdRaw41 := rfl
theorem rdRaw42 : Statement .rdRaw42 := rfl
theorem rdRaw43 : Statement .rdRaw43 := rfl
theorem rdRaw44 : Statement .rdRaw44 := rfl
theorem rdRaw45 : Statement .rdRaw45 := rfl
theorem rdRaw46 : Statement .rdRaw46 := rfl
theorem rdRaw47 : Statement .rdRaw47 := rfl
theorem rdRaw48 : Statement .rdRaw48 := rfl
theorem rdRaw49 : Statement .rdRaw49 := rfl
theorem rdRaw50 : Statement .rdRaw50 := rfl
theorem rdRaw51 : Statement .rdRaw51 := rfl
theorem rdRaw52 : Statement .rdRaw52 := rfl
theorem rdRaw53 : Statement .rdRaw53 := rfl
theorem rdRaw54 : Statement .rdRaw54 := rfl
theorem rdRaw55 : Statement .rdRaw55 := rfl
theorem rdRaw56 : Statement .rdRaw56 := rfl
theorem rdRaw57 : Statement .rdRaw57 := rfl
theorem rdRaw58 : Statement .rdRaw58 := rfl
theorem rdRaw59 : Statement .rdRaw59 := rfl
theorem rdRaw60 : Statement .rdRaw60 := rfl
theorem rdRaw61 : Statement .rdRaw61 := rfl
theorem rdRaw62 : Statement .rdRaw62 := rfl
theorem mrst : Statement .mrst := rfl
theorem mcls0 : Statement .mcls0 := rfl
theorem mcls1 : Statement .mcls1 := rfl
theorem mcls2 : Statement .mcls2 := rfl
theorem mven (c : Byte) : Statement (.mven c) := by
  simp only [Statement, encode, tableRow, cmdWord]; revert c; decide
theorem mpro (c : Byte) : Statement (.mpro c) := by
  simp only [Statement, encode, tableRow, cmdWord]; revert c; decide
theorem mcmb (c : Byte) : Statement (.mcmb c) := by
  simp only [Statement, encode, tableRow, cmdWord]; revert c; decide
theorem mtest : Statement .mtest := rfl
theorem mstat : Statement .mstat := rfl

end FitsOpcodeTable

end Sys2Proof.Laws
end

