-- ==== Sys2Proof/Machine/Asm.lean ====
section
/-! DEFINITION. The textual syntax of commands (30_encoding.md R68) and of the pseudo-instructions (R69): one line of text to
the command words it stands for, or to the response it states. It only spells command words; no step reads it. -/

namespace Sys2Proof.Machine

/-! ## Tokens -/

/-- A token of a line: a bare word, a quoted single character, or a quoted string. -/
inductive Token where
  | word (w : String)
  | char (c : Byte)
  | text (t : List Byte)
  deriving DecidableEq, Repr

/-- The code of an ASCII character. -/
def asciiCode (c : Char) : Option Byte :=
  if c.toNat < 128 then some (BitVec.ofNat 8 c.toNat) else none

/-- The word read so far (its characters newest first), before the tokens that follow it. -/
def endWord (cur : List Char) (ts : List Token) : List Token :=
  if cur.isEmpty then ts else .word (String.ofList cur.reverse) :: ts

/-- What the reader of a line is inside of: a word (its characters newest first), a single quote not yet filled, a single
quote not yet closed, or a quoted string (its bytes newest first). -/
inductive Inside where
  | word (cur : List Char)
  | quote
  | quoted (c : Byte)
  | text (t : List Byte)
  deriving DecidableEq, Repr

/-- The tokens of a line. A `;` outside quotes ends the line; blanks and commas separate tokens (log 17). -/
def tokens (inside : Inside) : List Char → Option (List Token)
  | [] =>
    match inside with
    | .word cur => some (endWord cur [])
    | .quote => none
    | .quoted _ => none
    | .text _ => none
  | c :: cs =>
    match inside with
    | .word cur =>
      if c = ';' then some (endWord cur [])
      else if c = ' ' ∨ c = '\t' ∨ c = ',' then (tokens (.word []) cs).map (endWord cur)
      else if c = '"' then (tokens (.text []) cs).map (endWord cur)
      else if c = '\'' then (tokens .quote cs).map (endWord cur)
      else tokens (.word (c :: cur)) cs
    | .quote => (asciiCode c).bind (fun q => tokens (.quoted q) cs)
    | .quoted q => if c = '\'' then (tokens (.word []) cs).map (.char q :: ·) else none
    | .text t =>
      if c = '"' then (tokens (.word []) cs).map (.text t.reverse :: ·)
      else (asciiCode c).bind (fun q => tokens (.text (q :: t)) cs)

/-! ## Numbers -/

/-- The value of a digit in base `base`. -/
def digitValue (base : Nat) (c : Char) : Option Nat :=
  let d := if '0' ≤ c ∧ c ≤ '9' then c.toNat - 48
    else if 'A' ≤ c ∧ c ≤ 'F' then c.toNat - 55
    else if 'a' ≤ c ∧ c ≤ 'f' then c.toNat - 87
    else base
  if d < base then some d else none

/-- The value of a digit string after a prefix of value `acc`. -/
def digitsValue (base : Nat) (acc : Nat) : List Char → Option Nat
  | [] => some acc
  | c :: cs => do digitsValue base (base * acc + (← digitValue base c)) cs

/-- A number: decimal, or hexadecimal after `0x`. -/
def numberValue (w : String) : Option Nat :=
  match w.toList with
  | [] => none
  | ['0', 'x'] => none
  | '0' :: 'x' :: ds => digitsValue 16 0 ds
  | ds => digitsValue 10 0 ds

/-- A number below 256. -/
def numberByte : Token → Option Byte
  | .word w => do
    let n ← numberValue w
    if n < 256 then some (BitVec.ofNat 8 n) else none
  | .char _ => none
  | .text _ => none

/-- The operand of `MVEN`, `MPRO` and `MCMB`: a number or a quoted character. -/
def charOperand : Token → Option Byte
  | .char c => some c
  | .word w => numberByte (.word w)
  | .text _ => none

/-! ## Commands -/

/-- The mnemonics of the select codes without an index (30_encoding.md R62). -/
def selectNames : List (String × Byte) := [
  ("TRN", 0x00#8), ("SEQ", 0x01#8), ("LX", 0x02#8), ("LY", 0x03#8), ("RX", 0x04#8), ("RY", 0x05#8),
  ("TL", 0x06#8), ("TR", 0x07#8), ("DPAD", 0x08#8), ("DPADRAW", 0x09#8),
  ("SQUARE", 0x0C#8), ("CROSS", 0x0D#8), ("CIRCLE", 0x0E#8), ("TRIANGLE", 0x0F#8),
  ("L1", 0x10#8), ("R1", 0x11#8), ("L2B", 0x12#8), ("R2B", 0x13#8),
  ("CREATE", 0x14#8), ("OPTIONS", 0x15#8), ("L3", 0x16#8), ("R3", 0x17#8),
  ("HOME", 0x18#8), ("TPCLICK", 0x19#8), ("MICBTN", 0x1A#8),
  ("GX", 0x20#8), ("GY", 0x21#8), ("GZ", 0x22#8), ("AX", 0x23#8), ("AY", 0x24#8), ("AZ", 0x25#8),
  ("TS", 0x26#8), ("T0ACT", 0x28#8), ("T0CNT", 0x29#8), ("T0X", 0x2A#8), ("T0Y", 0x2B#8),
  ("T1ACT", 0x2C#8), ("T1CNT", 0x2D#8), ("T1X", 0x2E#8), ("T1Y", 0x2F#8),
  ("BATT", 0x30#8), ("CHG", 0x31#8), ("CHGRAW", 0x32#8), ("CAP", 0x33#8), ("PERIPH", 0x34#8),
  ("CMAC0", 0x38#8), ("CMAC1", 0x39#8), ("CMAC2", 0x3A#8), ("CMAC3", 0x3B#8),
  ("CMAC4", 0x3C#8), ("CMAC5", 0x3D#8), ("CMAC6", 0x3E#8), ("CMAC7", 0x3F#8)]

/-- The select code of the operands of `RD`: a mnemonic, `RAW k`, or a numeric select code (30_encoding.md R68). -/
def selectOperand : List Token → Option Byte
  | [.word w] => (selectNames.lookup w).or (numberByte (.word w))
  | [.word w, k] => do
    let n ← numberByte k
    if w = "RAW" ∧ n.toNat ≤ 62 then some (0x40#8 + n) else none
  | _ => none

/-- The mnemonics without an operand and their opcode bytes (30_encoding.md R60). -/
def bareNames : List (String × Byte) := [
  ("CLR", 0x00#8), ("DEC", 0x02#8), ("STAT", 0x04#8), ("MRST", 0x10#8), ("MTEST", 0x15#8), ("MSTAT", 0x16#8)]

/-- The mnemonics with a number operand (30_encoding.md R60). -/
def numberNames : List (String × Byte) := [("PUSH", 0x01#8), ("MCLS", 0x11#8)]

/-- The mnemonics with a number or quoted character operand (30_encoding.md R60). -/
def charNames : List (String × Byte) := [("MVEN", 0x12#8), ("MPRO", 0x13#8), ("MCMB", 0x14#8)]

/-- The command word of one command (30_encoding.md R68). -/
def commandWord (name : String) (operands : List Token) : Option CmdWord :=
  if name = "RD" then (selectOperand operands).map (cmdWord 0x03#8)
  else match operands with
    | [] => (bareNames.lookup name).map (cmdWord · 0x00#8)
    | [t] =>
      match numberNames.lookup name with
      | some op => (numberByte t).map (cmdWord op)
      | none => do
        let op ← charNames.lookup name
        (charOperand t).map (cmdWord op)
    | _ => none

/-- The expansion of a pseudo-instruction (30_encoding.md R69), or the word of a command. -/
def expand (name : String) (operands : List Token) : Option (List CmdWord) :=
  if name = "LOAD" then (operands.mapM numberByte).map (fun bs => (loadProgram bs).map encode)
  else if name = "DECODE" then (operands.mapM numberByte).map (fun bs => (decodeProgram bs).map encode)
  else if name = "MCAND" then
    match operands with
    | [k, .text v, .text p, .text c] => do
      let k ← numberByte k
      some (cmdWord 0x11#8 k ::
        (v.map Instr.mven ++ p.map Instr.mpro ++ c.map Instr.mcmb ++ [Instr.mtest]).map encode)
    | _ => none
  else (commandWord name operands).map (fun w => [w])

/-! ## Lines -/

/-- The names of the response codes (30_encoding.md R67). -/
def codeNames : List (String × RspCode) := [
  ("OK", .ok), ("E_TRUNCATED", .eTruncated), ("E_UNKNOWN_TRANSPORT", .eUnknownTransport),
  ("F_NOT_DECODED", .fNotDecoded), ("F_DPAD_INVARIANT", .fDpadInvariant), ("F_ILLEGAL_CMD", .fIllegalCmd)]

/-- What a line says: the command words it stands for (none for an empty line or a comment), or the expected response
of the command before it. -/
inductive Line where
  | words (ws : List CmdWord)
  | expect (r : Response)
  deriving DecidableEq, Repr

/-- The meaning of the tokens of a line. -/
def lineOf : List Token → Option Line
  | [] => some (.words [])
  | [.word "->", .word code, .word data] => do
    let c ← codeNames.lookup code
    let d ← numberValue data
    if d < 2 ^ 32 then some (.expect ⟨c, BitVec.ofNat 32 d⟩) else none
  | .word name :: operands => (expand name operands).map .words
  | _ => none

/-- The meaning of a line of text (30_encoding.md R68). -/
def assembleLine (line : String) : Option Line := (tokens (.word []) line.toList).bind lineOf

end Sys2Proof.Machine
end

