-- ==== Sys2Proof/Tests/Slice0.lean ====
section
/-! SUPPORT. Tests on single steps, with the expected results of spec/ (95_test_vectors.md and the rules), and for every
statement with hypotheses a state that meets them. -/

namespace Sys2Proof.Tests

open Sys2Proof Sys2Proof.Machine

/-! ## Helpers -/

/-- The cells of a byte list, its first byte at index `k`. -/
def cellsFrom : Nat → List Byte → Memory
  | _, [] => []
  | k, b :: bs => if b = 0x00#8 then cellsFrom (k + 1) bs else (k, b) :: cellsFrom (k + 1) bs

/-- The reference report V1 of 95_test_vectors.md. -/
def v1 : List Byte := [
  0x01#8, 0x2A#8, 0x80#8, 0x7F#8, 0x00#8, 0xFF#8, 0x10#8, 0xE0#8,
  0x5C#8, 0x93#8, 0xA5#8, 0x05#8, 0xDE#8, 0xAD#8, 0xBE#8, 0xEF#8,
  0x02#8, 0x01#8, 0xFF#8, 0xFF#8, 0x00#8, 0x80#8, 0xFF#8, 0x7F#8,
  0x00#8, 0x00#8, 0xFE#8, 0xFF#8, 0xEF#8, 0xCD#8, 0xAB#8, 0x89#8,
  0x11#8, 0x00#8, 0x34#8, 0x12#8, 0x56#8, 0x81#8, 0x7F#8, 0x77#8,
  0x43#8, 0x40#8, 0x41#8, 0x42#8, 0x43#8, 0x44#8, 0x45#8, 0x46#8,
  0x47#8, 0x48#8, 0x49#8, 0x4A#8, 0x4B#8, 0x29#8, 0x0C#8, 0x00#8,
  0xA1#8, 0xB2#8, 0xC3#8, 0xD4#8, 0xE5#8, 0xF6#8, 0x07#8, 0x18#8]

/-- A machine whose buffer holds `bs`, all 64 bytes pushed and not yet decoded. -/
def loaded (c : Config) (bs : List Byte) : State :=
  { State.resetWith c with rb := cellsFrom 0 bs, len := 64#7 }

/-- A machine that has decoded `bs` as a Usb report. -/
def decoded (c : Config) (bs : List Byte) : State := { loaded c bs with res := .ok }

/-- The response of one command. -/
def reply (i : Instr) (s : State) : Option Response :=
  match exec i s with
  | .next t => t.rsp
  | .fault _ => none
  | .refused _ => none

/-- The state after one command. -/
def after (i : Instr) (s : State) : Option State :=
  match exec i s with
  | .next t => some t
  | .fault _ => none
  | .refused _ => none

/-- The response of one step. -/
def stepReply (s : State) : Option Response :=
  match step s with
  | .next t => t.rsp
  | .fault _ => none
  | .refused _ => none

/-- Without the DIM unit. -/
def noDim : Config := ⟨{ Params.standard with hasDim := false }, by decide⟩
/-- The buttons region counted from 1. -/
def regionFromOne : Config := ⟨{ Params.standard with btnB1Off := 7 }, by decide⟩
/-- The charging code in the low nibble. -/
def chargeLow : Config := ⟨{ Params.standard with chgHi := false }, by decide⟩

/-! ## Configurations: one refused set for each check (00_scope.md R7, R8; 95_test_vectors.md L1-8) -/

/-- The default set is admitted and is built. -/
theorem test_default_built : (Config.build Params.standard).isSome = true := by decide
/-- `OFF_ACCEL = 20` overlaps `gyro`; `OFF_TOUCH = 46` overlaps the status bytes (L1-8). -/
theorem test_overlap_refused :
    (Config.build { Params.standard with offAccel := 20 }).isNone = true ∧
      (Config.build { Params.standard with offTouch := 46 }).isNone = true := by decide
/-- `OFF_TS = 60` runs outside the payload (L1-8). -/
theorem test_outside_refused : (Config.build { Params.standard with offTs := 60 }).isNone = true := by decide
/-- `BTN_B1_OFF` is 7 or 8. -/
theorem test_region_offset_refused :
    (Config.build { Params.standard with btnB1Off := 9 }).isNone = true := by decide
/-- The two discriminators are different members of the set. -/
theorem test_discriminators_refused :
    (Config.build { Params.standard with discBt := 0x01#8 }).isNone = true := by decide
/-- A button name may not leave its region byte. -/
theorem test_button_map_refused :
    (Config.build { Params.standard with btnMap := Params.standard.btnMap.reverse }).isNone = true := by decide
/-- Code 8 must name "centered/none". -/
theorem test_direction_names_refused :
    (Config.build { Params.standard with dpadNames := Params.standard.dpadNames.reverse }).isNone = true := by
  decide
/-- A three-digit vendor literal, and a combined literal without its colon. -/
theorem test_literals_refused :
    (Config.build { Params.standard with vidStr := [0x35#8, 0x34#8, 0x63#8] }).isNone = true ∧
      (Config.build { Params.standard with cmbStr := List.replicate 21 0x30#8 }).isNone = true := by decide
/-- A DIM command is ill-formed without the DIM unit (46_matcher.md R149). -/
theorem test_dim_command_ill_formed : Instr.wellFormed noDim .mrst = false := by decide

/-! ## Decoding: every constructor's word, written from 30_encoding.md R60 and R62 -/

theorem test_decode_control : ∀ p ∈ ([
    (0x0000#16, .clr), (0x01A5#16, .push 0xA5#8), (0x0200#16, .dec), (0x0400#16, .stat)] :
      List (CmdWord × Instr)), decode p.1 = .ok p.2 := by
  decide +kernel

theorem test_decode_scalar : ∀ p ∈ ([
    (0x0300#16, .rdTrn), (0x0301#16, .rdSeq), (0x0302#16, .rdLx), (0x0303#16, .rdLy), (0x0304#16, .rdRx),
    (0x0305#16, .rdRy), (0x0306#16, .rdTl), (0x0307#16, .rdTr)] :
      List (CmdWord × Instr)), decode p.1 = .ok p.2 := by
  decide +kernel

theorem test_decode_buttons : ∀ p ∈ ([
    (0x0308#16, .rdDpad), (0x0309#16, .rdDpadraw), (0x030C#16, .rdSquare), (0x030D#16, .rdCross),
    (0x030E#16, .rdCircle), (0x030F#16, .rdTriangle), (0x0310#16, .rdL1), (0x0311#16, .rdR1),
    (0x0312#16, .rdL2b), (0x0313#16, .rdR2b), (0x0314#16, .rdCreate), (0x0315#16, .rdOptions),
    (0x0316#16, .rdL3), (0x0317#16, .rdR3), (0x0318#16, .rdHome), (0x0319#16, .rdTpclick),
    (0x031A#16, .rdMicbtn)] :
      List (CmdWord × Instr)), decode p.1 = .ok p.2 := by
  decide +kernel

theorem test_decode_motion : ∀ p ∈ ([
    (0x0320#16, .rdGx), (0x0321#16, .rdGy), (0x0322#16, .rdGz), (0x0323#16, .rdAx), (0x0324#16, .rdAy),
    (0x0325#16, .rdAz), (0x0326#16, .rdTs)] :
      List (CmdWord × Instr)), decode p.1 = .ok p.2 := by
  decide +kernel

theorem test_decode_touchpad : ∀ p ∈ ([
    (0x0328#16, .rdT0act), (0x0329#16, .rdT0cnt), (0x032A#16, .rdT0x), (0x032B#16, .rdT0y),
    (0x032C#16, .rdT1act), (0x032D#16, .rdT1cnt), (0x032E#16, .rdT1x), (0x032F#16, .rdT1y)] :
      List (CmdWord × Instr)), decode p.1 = .ok p.2 := by
  decide +kernel

theorem test_decode_status : ∀ p ∈ ([
    (0x0330#16, .rdBatt), (0x0331#16, .rdChg), (0x0333#16, .rdCap), (0x0334#16, .rdPeriph),
    (0x0338#16, .rdCmac0), (0x0339#16, .rdCmac1), (0x033A#16, .rdCmac2), (0x033B#16, .rdCmac3),
    (0x033C#16, .rdCmac4), (0x033D#16, .rdCmac5), (0x033E#16, .rdCmac6), (0x033F#16, .rdCmac7)] :
      List (CmdWord × Instr)), decode p.1 = .ok p.2 := by
  decide +kernel

theorem test_decode_status_raw_low : ∀ p ∈ ([
    (0x0332#16, .rdChgraw), (0x0340#16, .rdRaw0), (0x0341#16, .rdRaw1), (0x0342#16, .rdRaw2),
    (0x0343#16, .rdRaw3), (0x0344#16, .rdRaw4), (0x0345#16, .rdRaw5), (0x0346#16, .rdRaw6),
    (0x0347#16, .rdRaw7), (0x0348#16, .rdRaw8), (0x0349#16, .rdRaw9), (0x034A#16, .rdRaw10),
    (0x034B#16, .rdRaw11), (0x034C#16, .rdRaw12), (0x034D#16, .rdRaw13), (0x034E#16, .rdRaw14),
    (0x034F#16, .rdRaw15), (0x0350#16, .rdRaw16), (0x0351#16, .rdRaw17), (0x0352#16, .rdRaw18),
    (0x0353#16, .rdRaw19), (0x0354#16, .rdRaw20), (0x0355#16, .rdRaw21), (0x0356#16, .rdRaw22),
    (0x0357#16, .rdRaw23), (0x0358#16, .rdRaw24), (0x0359#16, .rdRaw25), (0x035A#16, .rdRaw26),
    (0x035B#16, .rdRaw27), (0x035C#16, .rdRaw28), (0x035D#16, .rdRaw29), (0x035E#16, .rdRaw30)] :
      List (CmdWord × Instr)), decode p.1 = .ok p.2 := by
  decide +kernel

theorem test_decode_status_raw_high : ∀ p ∈ ([
    (0x035F#16, .rdRaw31), (0x0360#16, .rdRaw32), (0x0361#16, .rdRaw33), (0x0362#16, .rdRaw34),
    (0x0363#16, .rdRaw35), (0x0364#16, .rdRaw36), (0x0365#16, .rdRaw37), (0x0366#16, .rdRaw38),
    (0x0367#16, .rdRaw39), (0x0368#16, .rdRaw40), (0x0369#16, .rdRaw41), (0x036A#16, .rdRaw42),
    (0x036B#16, .rdRaw43), (0x036C#16, .rdRaw44), (0x036D#16, .rdRaw45), (0x036E#16, .rdRaw46),
    (0x036F#16, .rdRaw47), (0x0370#16, .rdRaw48), (0x0371#16, .rdRaw49), (0x0372#16, .rdRaw50),
    (0x0373#16, .rdRaw51), (0x0374#16, .rdRaw52), (0x0375#16, .rdRaw53), (0x0376#16, .rdRaw54),
    (0x0377#16, .rdRaw55), (0x0378#16, .rdRaw56), (0x0379#16, .rdRaw57), (0x037A#16, .rdRaw58),
    (0x037B#16, .rdRaw59), (0x037C#16, .rdRaw60), (0x037D#16, .rdRaw61), (0x037E#16, .rdRaw62)] :
      List (CmdWord × Instr)), decode p.1 = .ok p.2 := by
  decide +kernel

theorem test_decode_matcher : ∀ p ∈ ([
    (0x1000#16, .mrst), (0x1100#16, .mcls0), (0x1101#16, .mcls1), (0x1102#16, .mcls2),
    (0x12A5#16, .mven 0xA5#8), (0x13A5#16, .mpro 0xA5#8), (0x14A5#16, .mcmb 0xA5#8), (0x1500#16, .mtest),
    (0x1600#16, .mstat)] :
      List (CmdWord × Instr)), decode p.1 = .ok p.2 := by
  decide +kernel

/-- Reserved words, each rejected by the kind of its reservation (30_encoding.md R63; vectors X-1 to X-4). -/
theorem test_reserved_words :
    (∀ w ∈ ([0x030A, 0x030B, 0x031B, 0x031F, 0x0327, 0x0335, 0x0337, 0x037F, 0x03FF] : List Nat),
      decode (BitVec.ofNat 16 w) = .error .select) ∧
    (∀ w ∈ ([0x0001, 0x0201, 0x0401, 0x1103, 0x1001, 0x1501, 0x1601] : List Nat),
      decode (BitVec.ofNat 16 w) = .error .operand) ∧
    (∀ w ∈ ([0x0500, 0x0F00, 0x1700, 0xFFFF] : List Nat), decode (BitVec.ofNat 16 w) = .error .opcode) := by
  decide +kernel

/-- A word the host places is the next step's command: `STAT` after reset answers 0 (vector D-12). -/
theorem test_placed_word_runs :
    decodeTableWord 16 0x0400 = some .stat ∧
      stepReply (State.reset.withFetchWord 16 0x0400) = some ⟨.ok, 0#32⟩ := by decide

/-! ## Accessors on V1 (95_test_vectors.md, the table of V1) -/

/-- Vector S-1. -/
theorem test_scalars : ∀ p ∈ ([
    (.rdTrn, 0x0#32), (.rdSeq, 0x2A#32), (.rdLx, 0x80#32), (.rdLy, 0x7F#32), (.rdRx, 0x0#32),
    (.rdRy, 0xFF#32), (.rdTl, 0x10#32), (.rdTr, 0xE0#32)] :
      List (Instr × RspData)), reply p.1 (decoded Config.standard v1) = some ⟨.ok, p.2⟩ := by
  decide +kernel

/-- Vector B-8. -/
theorem test_buttons : ∀ p ∈ ([
    (.rdDpad, 0x3#32), (.rdDpadraw, 0x3#32), (.rdSquare, 0x1#32), (.rdCross, 0x0#32), (.rdCircle, 0x0#32),
    (.rdTriangle, 0x1#32), (.rdL1, 0x1#32), (.rdR1, 0x0#32), (.rdL2b, 0x1#32), (.rdR2b, 0x0#32),
    (.rdCreate, 0x0#32), (.rdOptions, 0x1#32), (.rdL3, 0x0#32), (.rdR3, 0x1#32), (.rdHome, 0x1#32),
    (.rdTpclick, 0x0#32), (.rdMicbtn, 0x1#32)] :
      List (Instr × RspData)), reply p.1 (decoded Config.standard v1) = some ⟨.ok, p.2⟩ := by
  decide +kernel

/-- Vector B-9: `BTN_B1_OFF = 7`. -/
theorem test_buttons_from_one : ∀ p ∈ ([
    (.rdDpadraw, 0xC#32), (.rdSquare, 0x1#32), (.rdCross, 0x0#32), (.rdCircle, 0x1#32),
    (.rdTriangle, 0x0#32), (.rdL1, 0x1#32), (.rdR1, 0x1#32), (.rdL2b, 0x0#32), (.rdR2b, 0x0#32),
    (.rdCreate, 0x1#32), (.rdOptions, 0x0#32), (.rdL3, 0x0#32), (.rdR3, 0x1#32), (.rdHome, 0x1#32),
    (.rdTpclick, 0x0#32), (.rdMicbtn, 0x1#32)] :
      List (Instr × RspData)), reply p.1 (decoded regionFromOne v1) = some ⟨.ok, p.2⟩ := by
  decide +kernel

/-- Vectors B-9 and B-2: a nibble above 8 raises `F_DPAD_INVARIANT` with the nibble, and `DPADRAW` still answers. -/
theorem test_dpad_invariant :
    reply .rdDpad (decoded regionFromOne v1) = some ⟨.fDpadInvariant, 12#32⟩ ∧
      reply .rdDpad (decoded Config.standard (v1.set 9 0x09#8)) = some ⟨.fDpadInvariant, 9#32⟩ ∧
      reply .rdDpad (decoded Config.standard (v1.set 9 0xF8#8)) = some ⟨.ok, 8#32⟩ ∧
      reply .rdDpadraw (decoded Config.standard (v1.set 9 0x7F#8)) = some ⟨.ok, 15#32⟩ := by
  decide +kernel

/-- Vectors M-10 and M-12. -/
theorem test_motion : ∀ p ∈ ([
    (.rdGx, 0x102#32), (.rdGy, 0xFFFFFFFF#32), (.rdGz, 0xFFFF8000#32), (.rdAx, 0x7FFF#32), (.rdAy, 0x0#32),
    (.rdAz, 0xFFFFFFFE#32), (.rdTs, 0x89ABCDEF#32)] :
      List (Instr × RspData)), reply p.1 (decoded Config.standard v1) = some ⟨.ok, p.2⟩ := by
  decide +kernel

/-- Vector T-10, the source fixtures of L1-5 among them. -/
theorem test_touchpad : ∀ p ∈ ([
    (.rdT0act, 0x1#32), (.rdT0cnt, 0x0#32), (.rdT0x, 0x234#32), (.rdT0y, 0x561#32), (.rdT1act, 0x0#32),
    (.rdT1cnt, 0x1#32), (.rdT1x, 0x77F#32), (.rdT1y, 0x437#32)] :
      List (Instr × RspData)), reply p.1 (decoded Config.standard v1) = some ⟨.ok, p.2⟩ := by
  decide +kernel

/-- Vector ST-2. -/
theorem test_status : ∀ p ∈ ([
    (.rdBatt, 0x29#32), (.rdChg, 0x2#32), (.rdChgraw, 0x2#32), (.rdCap, 0x9#32), (.rdPeriph, 0xC#32)] :
      List (Instr × RspData)), reply p.1 (decoded Config.standard v1) = some ⟨.ok, p.2⟩ := by
  decide +kernel

/-- Vector ST-3: `CHG_HI = 0`. -/
theorem test_status_charge_low : ∀ p ∈ ([
    (.rdBatt, 0x29#32), (.rdChg, 0x19#32), (.rdChgraw, 0x9#32), (.rdCap, 0x2#32)] :
      List (Instr × RspData)), reply p.1 (decoded chargeLow v1) = some ⟨.ok, p.2⟩ := by
  decide +kernel

/-- Vector ST-1: the classification of all sixteen charging codes. -/
theorem test_charging_codes :
    (List.range 16).map (fun c => (classifyCharge (BitVec.ofNat 4 c)).bits) =
      [0x00#5, 0x01#5, 0x02#5, 0x13#5, 0x14#5, 0x15#5, 0x16#5, 0x17#5, 0x18#5, 0x19#5, 0x0A#5, 0x0B#5,
        0x1C#5, 0x1D#5, 0x1E#5, 0x0F#5] := by decide

/-- Vector ST-5. -/
theorem test_tag : ∀ p ∈ ([
    (.rdCmac0, 0xA1#32), (.rdCmac1, 0xB2#32), (.rdCmac2, 0xC3#32), (.rdCmac3, 0xD4#32), (.rdCmac4, 0xE5#32),
    (.rdCmac5, 0xF6#32), (.rdCmac6, 0x7#32), (.rdCmac7, 0x18#32)] :
      List (Instr × RspData)), reply p.1 (decoded Config.standard v1) = some ⟨.ok, p.2⟩ := by
  decide +kernel

/-- Vectors S-5 and ST-6: `RAW 0` to `RAW 31` are the bytes of V1. -/
theorem test_raw_low : ∀ p ∈ ([
    (.rdRaw0, 0x2A#32), (.rdRaw1, 0x80#32), (.rdRaw2, 0x7F#32), (.rdRaw3, 0x0#32), (.rdRaw4, 0xFF#32),
    (.rdRaw5, 0x10#32), (.rdRaw6, 0xE0#32), (.rdRaw7, 0x5C#32), (.rdRaw8, 0x93#32), (.rdRaw9, 0xA5#32),
    (.rdRaw10, 0x5#32), (.rdRaw11, 0xDE#32), (.rdRaw12, 0xAD#32), (.rdRaw13, 0xBE#32), (.rdRaw14, 0xEF#32),
    (.rdRaw15, 0x2#32), (.rdRaw16, 0x1#32), (.rdRaw17, 0xFF#32), (.rdRaw18, 0xFF#32), (.rdRaw19, 0x0#32),
    (.rdRaw20, 0x80#32), (.rdRaw21, 0xFF#32), (.rdRaw22, 0x7F#32), (.rdRaw23, 0x0#32), (.rdRaw24, 0x0#32),
    (.rdRaw25, 0xFE#32), (.rdRaw26, 0xFF#32), (.rdRaw27, 0xEF#32), (.rdRaw28, 0xCD#32), (.rdRaw29, 0xAB#32),
    (.rdRaw30, 0x89#32), (.rdRaw31, 0x11#32)] :
      List (Instr × RspData)), reply p.1 (decoded Config.standard v1) = some ⟨.ok, p.2⟩ := by
  decide +kernel

/-- Vectors ST-5 and ST-6: `RAW 32` to `RAW 62` are the bytes of V1. -/
theorem test_raw_high : ∀ p ∈ ([
    (.rdRaw32, 0x0#32), (.rdRaw33, 0x34#32), (.rdRaw34, 0x12#32), (.rdRaw35, 0x56#32), (.rdRaw36, 0x81#32),
    (.rdRaw37, 0x7F#32), (.rdRaw38, 0x77#32), (.rdRaw39, 0x43#32), (.rdRaw40, 0x40#32), (.rdRaw41, 0x41#32),
    (.rdRaw42, 0x42#32), (.rdRaw43, 0x43#32), (.rdRaw44, 0x44#32), (.rdRaw45, 0x45#32), (.rdRaw46, 0x46#32),
    (.rdRaw47, 0x47#32), (.rdRaw48, 0x48#32), (.rdRaw49, 0x49#32), (.rdRaw50, 0x4A#32), (.rdRaw51, 0x4B#32),
    (.rdRaw52, 0x29#32), (.rdRaw53, 0xC#32), (.rdRaw54, 0x0#32), (.rdRaw55, 0xA1#32), (.rdRaw56, 0xB2#32),
    (.rdRaw57, 0xC3#32), (.rdRaw58, 0xD4#32), (.rdRaw59, 0xE5#32), (.rdRaw60, 0xF6#32), (.rdRaw61, 0x7#32),
    (.rdRaw62, 0x18#32)] :
      List (Instr × RspData)), reply p.1 (decoded Config.standard v1) = some ⟨.ok, p.2⟩ := by
  decide +kernel

/-- Accessors before a decode answer `RES` (vectors D-12, D-13, X-7). -/
theorem test_not_decoded :
    reply .rdSeq State.reset = some ⟨.fNotDecoded, 0#32⟩ ∧
      reply .rdDpad { State.reset with res := .truncated } = some ⟨.fNotDecoded, 2#32⟩ ∧
      reply .rdLx { loaded Config.standard v1 with res := .unknownTransport } = some ⟨.fNotDecoded, 3#32⟩ := by
  decide

/-! ## Control commands (95_test_vectors.md 2.1) -/

/-- `CLR` after a decode (40_control_ops.md R70, the example). -/
theorem test_clr : after .clr { State.reset with len := 64#7, res := .ok, trn := .bluetooth } =
    some { State.reset with rsp := some ⟨.ok, 0#32⟩ } := by decide +kernel

/-- `PUSH 0x31` into an empty buffer (R71, the example), and a 65th byte (D-10). -/
theorem test_push :
    after (.push 0x31#8) State.reset =
      some { State.reset with rb := [(0, 0x31#8)], len := 1#7, rsp := some ⟨.ok, 0#32⟩ } ∧
    after (.push 0x99#8) (decoded Config.standard v1) =
      some { loaded Config.standard v1 with rsp := some ⟨.ok, 0#32⟩ } := by
  decide +kernel

/-- Pushing a zero over a stale byte leaves nothing listed. -/
theorem test_push_zero_keeps_canonical_form :
    after (.push 0x00#8) { State.reset with rb := [(0, 0x31#8)] } =
      some { State.reset with len := 1#7, rsp := some ⟨.ok, 0#32⟩ } := by decide +kernel

/-- `DEC`: V1 is Usb, V1 with 0x31 is Bluetooth, 0x7E is unknown, 63 bytes are too few (D-1 to D-4). -/
theorem test_dec :
    reply .dec (loaded Config.standard v1) = some ⟨.ok, 0#32⟩ ∧
      reply .dec (loaded Config.standard (v1.set 0 0x31#8)) = some ⟨.ok, 1#32⟩ ∧
      reply .dec (loaded Config.standard (v1.set 0 0x7E#8)) = some ⟨.eUnknownTransport, 0x7E#32⟩ ∧
      reply .dec { loaded Config.standard v1 with len := 63#7 } = some ⟨.eTruncated, 63#32⟩ := by decide +kernel

/-- `STAT` after a failed transport check (R73, the example) and after a Bluetooth decode (D-2). -/
theorem test_stat :
    reply .stat { loaded Config.standard v1 with res := .unknownTransport, errb := 0x7E#8 } =
        some ⟨.ok, 0x007E0340#32⟩ ∧
      reply .stat { decoded Config.standard v1 with trn := .bluetooth } = some ⟨.ok, 0x00000540#32⟩ := by
  decide +kernel

/-! ## The matcher (95_test_vectors.md 2.9) -/

/-- A record with the three strings `v`, `p`, `c` of class `k`. -/
def record (k : DevClass) (v p c : List Byte) : State :=
  { State.reset with
    cls := k, ven := cellsFrom 0 v, vlen := BitVec.ofNat 3 v.length, pro := cellsFrom 0 p,
    plen := BitVec.ofNat 3 p.length, cmb := cellsFrom 0 c, clen := c.length }

/-- K-5 (split form), K-6 (combined form), K-3 (vendor only), K-9 (class `OTHER`), K-1 (upper case). -/
theorem test_mtest :
    reply .mtest (record .input Params.standard.vidStr Params.standard.pidStr []) = some ⟨.ok, 1#32⟩ ∧
    reply .mtest { record .hid [] [] Params.standard.cmbStr with cidx := 5#16 } = some ⟨.ok, 0x00050001#32⟩ ∧
    reply .mtest (record .input Params.standard.vidStr [] []) = some ⟨.ok, 0#32⟩ ∧
    reply .mtest (record .other Params.standard.vidStr Params.standard.pidStr Params.standard.cmbStr) =
      some ⟨.ok, 0#32⟩ ∧
    reply .mtest (record .input [0x30#8, 0x35#8, 0x34#8, 0x43#8] Params.standard.pidStr []) =
      some ⟨.ok, 0#32⟩ := by decide +kernel

/-- K-12: at the limit both counters stay, and the index is still answered. -/
theorem test_mtest_saturates :
    after .mtest { record .input Params.standard.vidStr Params.standard.pidStr [] with
      cidx := 0xFFFF#16, mcnt := 0xFFFF#16 } =
    some { record .input Params.standard.vidStr Params.standard.pidStr [] with
      cidx := 0xFFFF#16, mcnt := 0xFFFF#16, mlast := true, rsp := some ⟨.ok, 0xFFFF0001#32⟩ } := by decide +kernel

/-- `MSTAT` after twelve records with two matches (2.9). -/
theorem test_mstat : reply .mstat { State.reset with cidx := 12#16, mcnt := 2#16 } =
    some ⟨.ok, 0x000C0002#32⟩ := by decide +kernel

/-- `MRST` and `MCLS 2` on a used matcher (46_matcher.md R139, R140). -/
theorem test_mrst_mcls :
    after .mrst { State.reset with cls := .hid, vlen := 5#3, clen := 22, cidx := 3#16, mcnt := 1#16, mlast := true } =
      some { State.reset with rsp := some ⟨.ok, 0#32⟩ } ∧
    after .mcls2 { State.reset with vlen := 5#3, plen := 4#3, clen := 22, cidx := 3#16 } =
      some { State.reset with cls := .hid, cidx := 3#16, rsp := some ⟨.ok, 0#32⟩ } ∧
    after .mcls0 { State.reset with cls := .hid, plen := 1#3 } =
      some { State.reset with rsp := some ⟨.ok, 0#32⟩ } ∧
    after .mcls1 State.reset = some { State.reset with cls := .input, rsp := some ⟨.ok, 0#32⟩ } := by
  decide +kernel

/-- `MVEN` on an empty and on a full string, `MPRO` and `MCMB` likewise (46_matcher.md R141 to R143; K-7, K-8a). -/
theorem test_append :
    after (.mven 0x30#8) State.reset =
      some { State.reset with ven := [(0, 0x30#8)], vlen := 1#3, rsp := some ⟨.ok, 0#32⟩ } ∧
    after (.mven 0x30#8) { State.reset with vlen := 4#3 } =
      some { State.reset with vlen := 5#3, rsp := some ⟨.ok, 0#32⟩ } ∧
    after (.mpro 0x36#8) { State.reset with plen := 3#3 } =
      some { State.reset with pro := [(3, 0x36#8)], plen := 4#3, rsp := some ⟨.ok, 0#32⟩ } ∧
    after (.mcmb 0x36#8) { State.reset with clen := 20 } =
      some { State.reset with cmb := [(20, 0x36#8)], clen := 21, rsp := some ⟨.ok, 0#32⟩ } ∧
    after (.mcmb 0x58#8) { State.reset with clen := 21 } =
      some { State.reset with clen := 22, rsp := some ⟨.ok, 0#32⟩ } := by
  decide +kernel

/-- Without the DIM unit its words are illegal (X-5). -/
theorem test_dim_absent :
    stepReply ((State.resetWith noDim).withFetchWord 16 0x1230) = some ⟨.fIllegalCmd, 0x1230#32⟩ ∧
      reply .mtest (State.resetWith noDim) = some ⟨.fIllegalCmd, 0x1500#32⟩ := by
  decide +kernel

/-! ## Witnesses: the hypotheses of the statements can be met -/

/-- ReservedWordAnswersIllegalCommand: a state for each list of R63, at the ends of its ranges. -/
theorem witness_reserved_words :
    (∀ w ∈ ([0x0500, 0x0FFF, 0x1700, 0xFFFF, 0x0001, 0x02FF, 0x0401, 0x1001, 0x1501, 0x16FF, 0x1103, 0x11FF,
        0x030A, 0x0337, 0x037F, 0x03FF] : List Nat),
      (State.reset.present [BitVec.ofNat 16 w]).cmds = BitVec.ofNat 16 w :: [] ∧
        reservedWord Config.standard (BitVec.ofNat 16 w)) ∧
    (∀ w ∈ ([0x1000, 0x1230, 0x1600] : List Nat), reservedWord noDim (BitVec.ofNat 16 w)) ∧ noDim.hasDim = false := by
  decide +kernel

/-- UnreservedWordIsAnInstruction: words on no list of R63, next to the ends of its ranges. -/
theorem witness_unreserved_words :
    ∀ w ∈ ([0x0000, 0x01FF, 0x0400, 0x1000, 0x1102, 0x1600, 0x0309, 0x030C, 0x037E] : List Nat),
      ¬ reservedWord Config.standard (BitVec.ofNat 16 w) := by
  decide +kernel

/-- StepRunsTheDecodedInstruction. -/
theorem witness_step_runs :
    ({ State.reset with cmds := [0x0131#16, 0x0200#16] } : State).cmds = 0x0131#16 :: [0x0200#16] ∧
      decode 0x0131#16 = .ok (.push 0x31#8) := by decide

/-- StepWithoutACommandWaits. -/
theorem witness_step_waits : State.reset.cmds = [] := rfl

/-- EveryStepAnswersAndEveryCommandIsAnswered: a command is waiting. -/
theorem witness_command_waiting : ({ State.reset with cmds := [0xFFFF#16] } : State).cmds ≠ [] := by decide

/-- ClrEmptiesTheReport, StatReturnsTheStatusWord, MrstBeginsAScan, MtestEvaluatesTheRecord,
MstatReturnsTheScanCounters: the clause about a non-zero operand, at both ends of its range. -/
theorem witness_operand_not_zero :
    ∀ op ∈ ([0x00, 0x04, 0x10, 0x15, 0x16] : List Nat), ∀ arg ∈ ([0x01, 0xFF] : List Nat),
      BitVec.ofNat 8 arg ≠ 0x00#8 ∧
        ({ State.reset with cmds := [cmdWord (BitVec.ofNat 8 op) (BitVec.ofNat 8 arg)] } : State).cmds =
          cmdWord (BitVec.ofNat 8 op) (BitVec.ofNat 8 arg) :: [] := by decide

/-- PushAppendsOneByte: both sides of the capacity. -/
theorem witness_push_room :
    ({ State.reset with len := 63#7 } : State).len.toNat < 64 ∧
      ¬ ({ State.reset with len := 64#7 } : State).len.toNat < 64 := by decide

/-- DecChecksLengthThenTransport: each of the four clauses on the length and the discriminator. -/
theorem witness_dec_clauses :
    ({ State.reset with len := 63#7 } : State).len.toNat < 64 ∧
    (64 ≤ (loaded Config.standard v1).len.toNat ∧
      (loaded Config.standard v1).rb.read 0 = (loaded Config.standard v1).cfg.discUsb) ∧
    (loaded Config.standard [0x31#8]).rb.read 0 = (loaded Config.standard [0x31#8]).cfg.discBt ∧
    ((loaded Config.standard [0x30#8]).rb.read 0 ≠ 0x01#8 ∧
      (loaded Config.standard [0x30#8]).rb.read 0 ≠ 0x31#8) := by decide

/-- DecChecksLengthThenTransport (its last clause) and DecIsIdempotent: a `DEC` that fails. -/
theorem witness_dec_failed : ∃ t, exec .dec State.reset = .next t ∧ t.res ≠ .ok ∧ Instr.rdSeq.isRd = true :=
  ⟨_, rfl, by decide, rfl⟩

/-- The statements about accessors before a decode: AccessorBeforeDecodeAnswersNotDecoded and the second clause of
every readout statement. -/
theorem witness_not_decoded : Instr.rdRaw62.isRd = true ∧ State.reset.res ≠ .ok := by decide

/-- The statements about accessors of a decoded report: AccessorsWriteNoState, OnlyDpadCanFailAfterDecode,
NamedButtonIsReadByItsSelectCode and the first clause of every readout statement, in both nibble orders. -/
theorem witness_decoded :
    Instr.rdChg.isRd = true ∧ Instr.rdChg ≠ .rdDpad ∧ (decoded Config.standard v1).res = .ok ∧
      (decoded Config.standard v1).cfg.chgHi = true ∧ (decoded chargeLow v1).res = .ok ∧
      (decoded chargeLow v1).cfg.chgHi = false := by decide

/-- Every clause of soundness holds of a decoded report. -/
theorem witness_decoded_sound : (decoded Config.standard v1).Sound where
  rb_wf := by decide
  ven_wf := rfl
  pro_wf := rfl
  cmb_wf := rfl
  len_le := by decide
  vlen_le := by decide
  plen_le := by decide
  clen_le := by decide
  ok_full := by decide
  ok_usb := by decide
  ok_bluetooth := by decide
  truncated_short := by decide
  unknown_full := by decide
  unknown_disc := by decide
  unknown_errb := by decide
  trn_clear := by decide
  errb_clear := by decide
  mcnt_le := by decide
  mlast_counted := by decide
  dim_absent := by decide

/-- Every clause of soundness holds of the same report decoded after a scan of one record. -/
theorem witness_decoded_after_scan_sound :
    ({ decoded Config.standard v1 with cidx := 1#16, cls := .hid } : State).Sound where
  rb_wf := by decide
  ven_wf := rfl
  pro_wf := rfl
  cmb_wf := rfl
  len_le := by decide
  vlen_le := by decide
  plen_le := by decide
  clen_le := by decide
  ok_full := by decide
  ok_usb := by decide
  ok_bluetooth := by decide
  truncated_short := by decide
  unknown_full := by decide
  unknown_disc := by decide
  unknown_errb := by decide
  trn_clear := by decide
  errb_clear := by decide
  mcnt_le := by decide
  mlast_counted := by decide
  dim_absent := by decide

/-- AccessorsDependOnTheReportAlone: two sound decoded states that hold one report and differ elsewhere. -/
theorem witness_same_report :
    decoded Config.standard v1 ≠ { decoded Config.standard v1 with cidx := 1#16, cls := .hid } ∧
    Instr.rdTrn.isRd = true ∧
    SameBytes (decoded Config.standard v1) { decoded Config.standard v1 with cidx := 1#16, cls := .hid } ∧
    ∃ t₁ t₂, exec .rdTrn (decoded Config.standard v1) = .next t₁ ∧
      exec .rdTrn { decoded Config.standard v1 with cidx := 1#16, cls := .hid } = .next t₂ :=
  ⟨by decide, rfl, fun _ _ => rfl, _, _, rfl, rfl⟩

/-- TransportReadout: both transports, and a sound decoded state. -/
theorem witness_transports :
    (decoded Config.standard v1).trn = .usb ∧
      ({ decoded Config.standard v1 with trn := .bluetooth } : State).trn = .bluetooth := by decide

/-- DpadClassifiesTheNibble and DpadRawReturnsTheNibble: nibbles 8 and 9, and answers to compare. -/
theorem witness_nibbles :
    ((decoded Config.standard (v1.set 9 0xF8#8)).rb.read (Config.standard.btnB1Off + 1) &&& 0x0F#8).toNat ≤ 8 ∧
    9 ≤ ((decoded Config.standard (v1.set 9 0x09#8)).rb.read (Config.standard.btnB1Off + 1) &&& 0x0F#8).toNat ∧
    reply .rdDpad (decoded Config.standard (v1.set 9 0xF8#8)) = some ⟨.ok, 8#32⟩ ∧
    reply .rdSeq (decoded Config.standard (v1.set 9 0x09#8)) = some ⟨.ok, 0x2A#32⟩ := by decide

/-- ChargeClassificationKeepsTheCode: a recognised and an unrecognised code, in V1 under the two nibble orders. -/
theorem witness_charge_codes :
    (2 = ((decoded Config.standard v1).rb.read (Config.standard.offBatt + 1)).toNat / 16 ∧
      2 ∈ [0x0, 0x1, 0x2, 0xA, 0xB, 0xF]) ∧
    (9 = ((decoded chargeLow v1).rb.read (chargeLow.offBatt + 1)).toNat % 16 ∧
      9 ∉ [0x0, 0x1, 0x2, 0xA, 0xB, 0xF]) := by decide

/-- RawReadoutsReturnEveryPayloadByte: the reserved selects, at both ends of their range. -/
theorem witness_reserved_select :
    ∀ f ∈ ([0x7F, 0xFF] : List Nat), 0x7F ≤ (BitVec.ofNat 8 f).toNat ∧
      ({ State.reset with cmds := [cmdWord 0x03#8 (BitVec.ofNat 8 f)] } : State).cmds =
        cmdWord 0x03#8 (BitVec.ofNat 8 f) :: [] := by decide

/-- OnlyPushWritesTheBuffer, ParametersNeverChange, StepKeepsTheStateSound: a step that takes neither `PUSH` nor `CLR`,
from a sound state. -/
theorem witness_step_taken :
    (∃ t, step { decoded Config.standard v1 with cmds := [0x0200#16] } = .next t) ∧
    (∀ b rest, ({ decoded Config.standard v1 with cmds := [0x0200#16] } : State).cmds ≠
      encode (.push b) :: rest) ∧
    (∀ rest, ({ decoded Config.standard v1 with cmds := [0x0200#16] } : State).cmds ≠ encode .clr :: rest) := by
  refine ⟨⟨_, rfl⟩, fun b rest h => ?_, fun rest h => ?_⟩
  · injection h with h1 _
    have hop := congrArg cmdOp h1
    simp only [encode, cmdOp_cmdWord] at hop
    revert hop
    decide
  · injection h with h1 _
    have hop := congrArg cmdOp h1
    simp only [encode, cmdOp_cmdWord] at hop
    revert hop
    decide

/-- StepKeepsTheStateSound: the step's state may be sound with a command waiting. -/
theorem witness_step_taken_sound : ({ decoded Config.standard v1 with cmds := [0x0200#16] } : State).Sound :=
  ⟨witness_decoded_sound.1, rfl, rfl, rfl, witness_decoded_sound.5, witness_decoded_sound.6,
    witness_decoded_sound.7, witness_decoded_sound.8, witness_decoded_sound.9, witness_decoded_sound.10,
    witness_decoded_sound.11, witness_decoded_sound.12, witness_decoded_sound.13, witness_decoded_sound.14,
    witness_decoded_sound.15, witness_decoded_sound.16, witness_decoded_sound.17, witness_decoded_sound.18,
    witness_decoded_sound.19, witness_decoded_sound.20⟩

/-- ConditionsChangeNothingButDecResults and EachConditionHasItsOneCause: each condition is raised somewhere. -/
theorem witness_conditions :
    reply .dec State.reset = some ⟨.eTruncated, 0#32⟩ ∧
    reply .dec (loaded Config.standard [0x30#8]) = some ⟨.eUnknownTransport, 0x30#32⟩ ∧
    reply .rdSeq State.reset = some ⟨.fNotDecoded, 0#32⟩ ∧
    reply .rdDpad (decoded Config.standard (v1.set 9 0x0F#8)) = some ⟨.fDpadInvariant, 15#32⟩ ∧
    reply .mstat (State.resetWith noDim) = some ⟨.fIllegalCmd, 0x1600#32⟩ := by decide

/-- PhaseMovesOnlyAsListed: a word of each kind, and both sides of the length. -/
theorem witness_phase_words :
    (∀ w ∈ ([0x0000, 0x0131, 0x0200, 0x0400, 0xFFFF] : List Nat),
      (stepReply (State.reset.present [BitVec.ofNat 16 w])).isSome = true ∧
      (stepReply ((loaded Config.standard v1).present [BitVec.ofNat 16 w])).isSome = true) ∧
    encode (.push 0x31#8) = 0x0131#16 ∧ 0x0400#16 ≠ encode .clr ∧ 0x0400#16 ≠ encode .dec ∧
    (∀ b, 0x0400#16 ≠ encode (.push b)) := by
  decide +kernel

/-- UnitsDoNotTouchEachOther, UnitsDoNotSeeEachOther: a command of each unit, and states that agree on one unit only. -/
theorem witness_units :
    Instr.mtest.isDim = true ∧ Instr.dec.isDim = false ∧
    State.reset.SameDim (decoded Config.standard v1) ∧ State.reset ≠ decoded Config.standard v1 ∧
    State.reset.SameRdx { State.reset with cidx := 1#16 } ∧ State.reset ≠ { State.reset with cidx := 1#16 } ∧
    (∃ t₁ t₂, exec .mtest State.reset = .next t₁ ∧ exec .mtest (decoded Config.standard v1) = .next t₂) ∧
    ∃ t₁ t₂, exec .dec State.reset = .next t₁ ∧ exec .dec { State.reset with cidx := 1#16 } = .next t₂ :=
  ⟨rfl, rfl, ⟨rfl, rfl, rfl, rfl, rfl, rfl, rfl, rfl, rfl, rfl⟩, by decide, ⟨rfl, rfl, rfl, rfl, rfl⟩, by decide,
    ⟨_, _, rfl, rfl⟩, _, _, rfl, rfl⟩

/-- CallIsStateless: two different states with one configuration, and commands that only read. -/
theorem witness_call :
    State.reset ≠ decoded Config.standard v1 ∧ State.reset.cfg = (decoded Config.standard v1).cfg ∧
      ∀ i ∈ ([.rdSeq, .stat] : List Instr), i.isRd = true ∨ i = .stat := by decide

/-- DecodeOfBytes and BytesPastTheSixtyFourthAreDropped: short, Usb, Bluetooth and
unknown byte lists at the boundary. -/
theorem witness_byte_lists :
    (v1.take 63).length < 64 ∧ 64 ≤ v1.length ∧ v1[0]? = some Config.standard.discUsb ∧
      (v1.set 0 0x31#8)[0]? = some Config.standard.discBt ∧ (v1.set 0 0x00#8)[0]? = some 0x00#8 := by decide

/-- BufferStandsUntilNextReport: commands that are neither `CLR` nor `PUSH`; the state is that of
witness_decoded_sound. -/
theorem witness_reading_commands :
    ∀ i ∈ ([.dec, .rdSeq, .stat, .mtest] : List Instr), i ≠ .clr ∧ ∀ b, i ≠ .push b := by decide

/-- The statements about DIM commands: the unit present, and absent, with string lengths on both sides of the
capacities (StringCommandsAppendOneByte). -/
theorem witness_dim :
    State.reset.cfg.hasDim = true ∧ (State.resetWith noDim).cfg.hasDim = false ∧ (Instr.mven 0x30#8).isDim = true ∧
    ({ State.reset with vlen := 3#3 } : State).vlen.toNat < 4 ∧
    4 ≤ ({ State.reset with vlen := 4#3 } : State).vlen.toNat ∧
    ({ State.reset with plen := 3#3 } : State).plen.toNat < 4 ∧
    4 ≤ ({ State.reset with plen := 5#3 } : State).plen.toNat ∧
    ({ State.reset with clen := 20 } : State).clen < Config.standard.ccap ∧
    Config.standard.ccap ≤ ({ State.reset with clen := 21 } : State).clen := by decide

/-- FirstCommandAfterReset: a command of each of its clauses, with the unit present and absent. -/
theorem witness_first_command :
    Instr.rdDpad.isRd = true ∧ Instr.clr ≠ .dec ∧ Instr.clr.isRd = false ∧ Instr.clr.isDim = false ∧
    Instr.mstat ≠ .dec ∧ Instr.mstat.isRd = false ∧ Instr.mstat.isDim = true ∧
    Config.standard.hasDim = true ∧ noDim.hasDim = false := by decide

/-- MclsBeginsARecord: the reserved class tags, at both ends of their range. -/
theorem witness_reserved_class :
    ∀ k ∈ ([0x03, 0xFF] : List Nat), 3 ≤ (BitVec.ofNat 8 k).toNat ∧
      ({ State.reset with cmds := [cmdWord 0x11#8 (BitVec.ofNat 8 k)] } : State).cmds =
        cmdWord 0x11#8 (BitVec.ofNat 8 k) :: [] := by decide

/-- AbsentMatcherAnswersIllegalCommand: a configuration that differs in `HAS_DIM` alone. -/
theorem witness_dim_alone :
    Instr.dec.isDim = false ∧
      noDim.toParams = { State.reset.cfg.toParams with hasDim := noDim.hasDim } ∧
      ∃ t, exec .dec State.reset = .next t :=
  ⟨rfl, rfl, _, rfl⟩

/-- AdmittedLayoutsFitTheReport. -/
theorem witness_built : Config.build Params.standard = some Config.standard := by decide

/-- CanonicalRegistersAreEqualWhenTheyReadEqual. -/
theorem witness_canonical :
    Memory.wf 4 [(1, 0x30#8)] = true ∧ (Memory.write [(1, 0x30#8), (2, 0x31#8)] 2 0x00#8).wf 4 = true ∧
      ∀ a, a < 4 → Memory.read [(1, 0x30#8)] a =
        (Memory.write [(1, 0x30#8), (2, 0x31#8)] 2 0x00#8).read a := by decide

/-- The phases are told apart, and a name of each kind reads as the spec's tables say (10_state.md R22; 42_buttons.md
R88, R89). -/
theorem test_views :
    State.reset.phase = .empty ∧ (loaded Config.standard v1).phase = .loading ∧
    (decoded Config.standard v1).phase = .decoded ∧
    ({ State.reset with res := .truncated } : State).phase = .failed ∧
    buttonSelect Config.standard .triangle = 0x0F#8 ∧ buttonSelect Config.standard .r3 = 0x17#8 ∧
    buttonSelect Config.standard .micbtn = 0x1A#8 ∧ (decoded Config.standard v1).pressed .home = true ∧
    (decoded Config.standard v1).pressed .cross = false ∧
    directionName Config.standard 3#4 = some .southEast ∧ directionName Config.standard 9#4 = none := by decide

/-- The spelling of commands (30_encoding.md R68), with the rule's own examples, and of a pseudo-instruction (R69). -/
theorem test_assembler :
    assembleLine "RD LX" = some (.words [0x0302#16]) ∧ assembleLine "RD CMAC3" = some (.words [0x033B#16]) ∧
    assembleLine "RD RAW 11" = some (.words [0x034B#16]) ∧ assembleLine "RD 0x02" = some (.words [0x0302#16]) ∧
    assembleLine "MVEN '0'" = some (.words [0x1230#16]) ∧ assembleLine "STAT ; read" = some (.words [0x0400#16]) ∧
    assembleLine "MCAND 2, \"0\", \"\", \"1\"" = some (.words [0x1102#16, 0x1230#16, 0x1431#16, 0x1500#16]) ∧
    assembleLine "-> F_NOT_DECODED, 2" = some (.expect ⟨.fNotDecoded, 2#32⟩) := by decide +kernel

/-- The pseudo-instructions expand as 30_encoding.md R69 says. -/
theorem test_expansions :
    decodeProgram [0x01#8, 0x2A#8] = [.clr, .push 0x01#8, .push 0x2A#8, .dec] ∧
    candidateProgram .hid [0x30#8] [] [0x31#8] = [.mcls2, .mven 0x30#8, .mcmb 0x31#8, .mtest] := by decide

end Sys2Proof.Tests
end

section
/-! PROOFS. What an admitted parameter set guarantees (00_scope.md R7, R8), and canonical byte registers that read alike. -/

namespace Sys2Proof

/-! ## Admitted parameter sets -/

/-- The five fields of fixed place before the open ones, as half-open ranges (00_scope.md R6). -/
def leadingRanges : List (Nat × Nat) :=
  [(offSeq, offSeq + 1), (offLeft, offLeft + 2), (offRight, offRight + 2), (offTrig, offTrig + 2), (offBtn, offBtn + 4)]

/-- The six fields whose place the parameters choose, each a first offset and a length (00_scope.md R7). -/
def Params.openFields (p : Params) : List (Nat × Nat) :=
  [(p.offGyro, 6), (p.offAccel, 6), (p.offTs, 4), (p.offTouch, 8), (p.offBatt, 1), (p.offPeriph, 1)]

/-- The half-open range of a field given by its first offset and its length. -/
def fieldSpan (f : Nat × Nat) : Nat × Nat := (f.1, f.1 + f.2)

/-- The ranges `LayoutOK` checks are the open fields between the fields of fixed place. -/
theorem Params.fieldRanges_eq (p : Params) :
    p.fieldRanges = leadingRanges ++ (p.openFields.map fieldSpan ++ [(offCmac, offCmac + 8)]) := rfl

theorem rangesDisjoint_iff (a b : Nat × Nat) : rangesDisjoint a b = true ↔ a.2 ≤ b.1 ∨ b.2 ≤ a.1 := by
  simp [rangesDisjoint]

theorem pairwiseDisjoint_iff (rs : List (Nat × Nat)) :
    pairwiseDisjoint rs = true ↔ rs.Pairwise fun a b => a.2 ≤ b.1 ∨ b.2 ≤ a.1 := by
  induction rs with
  | nil => simp [pairwiseDisjoint]
  | cons r rs ih => simp [pairwiseDisjoint, ih, List.pairwise_cons, rangesDisjoint_iff]

theorem Params.discsOK_iff (p : Params) :
    p.discsOK = true ↔ (p.discUsb = 0x01#8 ∧ p.discBt = 0x31#8) ∨ (p.discUsb = 0x31#8 ∧ p.discBt = 0x01#8) := by
  simp [Params.discsOK]

/-- The clauses of `LayoutOK` that place fields and fix discriminators. -/
theorem Params.layoutOK_clauses {p : Params} (h : p.layoutOK = true) :
    (∀ r ∈ p.fieldRanges, r.2 ≤ payloadLen) ∧
    (p.fieldRanges.Pairwise fun a b => a.2 ≤ b.1 ∨ b.2 ≤ a.1) ∧
    (p.btnB1Off = 7 ∨ p.btnB1Off = 8) ∧ p.discsOK = true := by
  simp only [Params.layoutOK, Bool.and_eq_true, Bool.or_eq_true, beq_iff_eq, List.all_eq_true, decide_eq_true_eq,
    pairwiseDisjoint_iff] at h
  obtain ⟨⟨⟨⟨hin, hdisj⟩, hbtn⟩, hdisc⟩, -⟩ := h
  exact ⟨hin, hdisj, hbtn, hdisc⟩

/-- A set that is admitted satisfies `LayoutOK`. -/
theorem Params.layoutOK_of_admitted {p : Params} (h : p.admitted = true) : p.layoutOK = true := by
  simp only [Params.admitted, Bool.and_eq_true] at h
  exact h.1.1.1

/-- A range of at least one byte inside the payload that meets no field of fixed place lies between the buttons region
and the tag. -/
theorem bounds_of_disjoint_fixed {r : Nat × Nat} (hne : r.1 < r.2) (hin : r.2 ≤ payloadLen)
    (hlead : ∀ a ∈ leadingRanges, a.2 ≤ r.1 ∨ r.2 ≤ a.1)
    (htag : r.2 ≤ offCmac ∨ offCmac + 8 ≤ r.1) : 11 ≤ r.1 ∧ r.2 ≤ 55 := by
  simp only [leadingRanges, List.forall_mem_cons, offSeq, offLeft, offRight, offTrig, offBtn] at hlead
  simp only [payloadLen, offCmac] at hin htag
  omega

theorem Params.openFields_pos {p : Params} {f : Nat × Nat} (hf : f ∈ p.openFields) : 0 < f.2 := by
  simp only [Params.openFields, List.mem_cons, List.not_mem_nil, or_false] at hf
  rcases hf with rfl | rfl | rfl | rfl | rfl | rfl <;> simp

/-- Under `LayoutOK` every open field lies between the buttons region and the tag. -/
theorem Params.openField_bounds {p : Params} (h : p.layoutOK = true) {f : Nat × Nat} (hf : f ∈ p.openFields) :
    11 ≤ f.1 ∧ f.1 + f.2 ≤ 55 := by
  obtain ⟨hin, hdisj, -, -⟩ := Params.layoutOK_clauses h
  rw [Params.fieldRanges_eq] at hin hdisj
  obtain ⟨-, hopenTag, hlead⟩ := List.pairwise_append.mp hdisj
  obtain ⟨-, -, htag⟩ := List.pairwise_append.mp hopenTag
  have hmem : fieldSpan f ∈ p.openFields.map fieldSpan := List.mem_map_of_mem hf
  exact bounds_of_disjoint_fixed (r := fieldSpan f) (Nat.lt_add_of_pos_right (Params.openFields_pos hf))
    (hin _ (by simp [hmem])) (fun a ha => hlead a ha _ (by simp [hmem])) (htag _ hmem _ (List.mem_singleton_self _))

/-- Under `LayoutOK` no two open fields share an offset. -/
theorem Params.openFields_pairwise {p : Params} (h : p.layoutOK = true) :
    p.openFields.Pairwise fun a b => a.1 + a.2 ≤ b.1 ∨ b.1 + b.2 ≤ a.1 := by
  obtain ⟨-, hdisj, -, -⟩ := Params.layoutOK_clauses h
  rw [Params.fieldRanges_eq] at hdisj
  obtain ⟨-, hopenTag, -⟩ := List.pairwise_append.mp hdisj
  exact List.pairwise_map.mp (List.pairwise_append.mp hopenTag).1

/-- `Config.build` answers the set itself, and only when it is admitted (00_scope.md R8). -/
theorem Config.build_eq_some {p : Params} {c : Config} (h : Config.build p = some c) :
    c.toParams = p ∧ p.admitted = true := by
  unfold Config.build at h
  split at h
  next hp => cases h; exact ⟨rfl, hp⟩
  next => cases h

/-- The two discriminators of a configuration differ. -/
theorem Config.discBt_ne_discUsb (c : Config) : c.discBt ≠ c.discUsb := by
  obtain ⟨-, -, -, hdisc⟩ := Params.layoutOK_clauses (Params.layoutOK_of_admitted c.isAdmitted)
  rcases (Params.discsOK_iff _).mp hdisc with ⟨hu, hb⟩ | ⟨hu, hb⟩ <;> rw [hu, hb] <;> decide

end Sys2Proof

namespace Sys2Proof.Machine

/-! ## Canonical byte registers -/

theorem Memory.wfFrom_cons {lo hi : Nat} {cell : Host.Cell} {m : Memory} :
    Memory.wfFrom lo hi (cell :: m) = true ↔
      lo ≤ cell.1 ∧ cell.1 < hi ∧ cell.2 ≠ Memory.unlisted ∧ Memory.wfFrom (cell.1 + 1) hi m = true := by
  simp [Memory.wfFrom, and_assoc]

/-- An index that does not read as unlisted lies in the range of the canonical form. -/
theorem Memory.range_of_read_ne_unlisted {lo hi a : Nat} {m : Memory} (h : Memory.wfFrom lo hi m = true)
    (ha : m.read a ≠ Memory.unlisted) : lo ≤ a ∧ a < hi := by
  induction m generalizing lo with
  | nil => exact absurd rfl ha
  | cons cell m ih =>
    obtain ⟨hlo, hhi, -, hm⟩ := Memory.wfFrom_cons.mp h
    rw [Memory.read_cons] at ha
    split at ha
    next hc => omega
    next => have := ih hm ha; omega

theorem Memory.read_eq_unlisted {lo hi a : Nat} {m : Memory} (h : Memory.wfFrom lo hi m = true)
    (ha : ¬ (lo ≤ a ∧ a < hi)) : m.read a = Memory.unlisted :=
  by_contra fun hne => ha (Memory.range_of_read_ne_unlisted h hne)

/-- The first cell of a canonical list is the lowest index that does not read as unlisted. -/
theorem Memory.head_le_of_read_ne_unlisted {lo hi a : Nat} {cell : Host.Cell} {m : Memory}
    (h : Memory.wfFrom lo hi (cell :: m) = true) (ha : Memory.read (cell :: m) a ≠ Memory.unlisted) : cell.1 ≤ a := by
  obtain ⟨-, hrest⟩ := Memory.wfFrom_cons.mp h
  exact (Memory.range_of_read_ne_unlisted (Memory.wfFrom_cons.mpr ⟨le_rfl, hrest⟩) ha).1

/-- The first cell of a canonical list reads as something that is not unlisted. -/
theorem Memory.read_head_ne_unlisted {lo hi : Nat} {cell : Host.Cell} {m : Memory}
    (h : Memory.wfFrom lo hi (cell :: m) = true) : Memory.read (cell :: m) cell.1 ≠ Memory.unlisted := by
  obtain ⟨-, -, hv, -⟩ := Memory.wfFrom_cons.mp h
  simpa [Memory.read_cons] using hv

/-- Two canonical lists that read the same at every index are equal. -/
theorem Memory.eq_of_wfFrom_of_read_eq {lo hi : Nat} {m₁ m₂ : Memory} (h₁ : Memory.wfFrom lo hi m₁ = true)
    (h₂ : Memory.wfFrom lo hi m₂ = true) (hread : ∀ a, m₁.read a = m₂.read a) : m₁ = m₂ := by
  induction m₁ generalizing lo m₂ with
  | nil =>
    cases m₂ with
    | nil => rfl
    | cons d m₂ => exact absurd (hread d.1).symm (Memory.read_head_ne_unlisted h₂)
  | cons c m₁ ih =>
    cases m₂ with
    | nil => exact absurd (hread c.1) (Memory.read_head_ne_unlisted h₁)
    | cons d m₂ =>
      have hdc : d.1 ≤ c.1 := Memory.head_le_of_read_ne_unlisted h₂ (hread c.1 ▸ Memory.read_head_ne_unlisted h₁)
      have hcd : c.1 ≤ d.1 := Memory.head_le_of_read_ne_unlisted h₁ (hread d.1 ▸ Memory.read_head_ne_unlisted h₂)
      have hidx : c.1 = d.1 := Nat.le_antisymm hcd hdc
      have hcell : c = d := Prod.ext hidx (by simpa [Memory.read_cons, hidx] using hread c.1)
      subst hcell
      obtain ⟨-, -, -, hm₁⟩ := Memory.wfFrom_cons.mp h₁
      obtain ⟨-, -, -, hm₂⟩ := Memory.wfFrom_cons.mp h₂
      have htail : ∀ a, Memory.read m₁ a = Memory.read m₂ a := by
        intro a
        by_cases ha : c.1 = a
        · rw [Memory.read_eq_unlisted hm₁ (by omega), Memory.read_eq_unlisted hm₂ (by omega)]
        · simpa [Memory.read_cons, ha] using hread a
      rw [ih hm₁ hm₂ htail]

/-- Two canonical lists of `size` registers that read the same at each of them are equal. -/
theorem Memory.eq_of_wf_of_read_eq {size : Nat} {m₁ m₂ : Memory} (h₁ : m₁.wf size = true) (h₂ : m₂.wf size = true)
    (hread : ∀ a, a < size → m₁.read a = m₂.read a) : m₁ = m₂ := by
  refine Memory.eq_of_wfFrom_of_read_eq h₁ h₂ fun a => ?_
  by_cases ha : a < size
  · exact hread a ha
  · rw [Memory.read_eq_unlisted h₁ (by omega), Memory.read_eq_unlisted h₂ (by omega)]

end Sys2Proof.Machine

namespace Sys2Proof.Proofs

open Sys2Proof.Machine

/-- Settles O58: the open fields are read off the ranges that `LayoutOK` checks pairwise. -/
theorem admittedLayoutsFitTheReport : Obligations.AdmittedLayoutsFitTheReport := by
  intro p c hbuild
  obtain ⟨hparams, hadmitted⟩ := Config.build_eq_some hbuild
  have hlayout := Params.layoutOK_of_admitted hadmitted
  obtain ⟨-, -, hbtn, hdisc⟩ := Params.layoutOK_clauses hlayout
  have hbounds : ∀ f ∈ p.openFields, 11 ≤ f.1 ∧ f.1 ≤ 55 - f.2 := fun f hf => by
    have := Params.openField_bounds hlayout hf; omega
  simp only [Params.openFields, List.forall_mem_cons] at hbounds
  obtain ⟨hgyro, haccel, hts, htouch, hbatt, hperiph, -⟩ := hbounds
  exact ⟨hparams, hgyro, haccel, hts, htouch, hbatt, hperiph, Params.openFields_pairwise hlayout, hbtn,
    (Params.discsOK_iff p).mp hdisc⟩

end Sys2Proof.Proofs
end

section
/-! PROOFS. What each command reads and writes, unit by unit (00_scope.md R2, R11): every command answers one response
on a state it has updated, and the response and the update stay inside the command's own unit. -/

namespace Sys2Proof.Machine

/-! ## Agreement of states, unit by unit -/

/-- What a command of the report unit may read: the parameters and the RDX state, with all else as after reset. -/
def State.rdxPart (s : State) : State :=
  { State.resetWith s.cfg with rb := s.rb, len := s.len, res := s.res, trn := s.trn, errb := s.errb }

theorem State.SameRdx.rdxPart_eq {s₁ s₂ : State} (hcfg : s₁.cfg = s₂.cfg) (h : s₁.SameRdx s₂) :
    s₁.rdxPart = s₂.rdxPart := by
  simp only [State.rdxPart, hcfg, h.rb, h.len, h.res, h.trn, h.errb]

/-- A function of the state that the parameters and the RDX state determine. -/
def ReadsRdx {α : Type} (v : State → α) : Prop := ∀ s₁ s₂, s₁.cfg = s₂.cfg → s₁.SameRdx s₂ → v s₁ = v s₂

/-- A function of the state that the parameters and the DIM state determine. -/
def ReadsDim {α : Type} (v : State → α) : Prop := ∀ s₁ s₂, s₁.cfg = s₂.cfg → s₁.SameDim s₂ → v s₁ = v s₂

theorem readsRdx_of_rdxPart {α : Type} {v : State → α} (hv : ∀ s, v s = v s.rdxPart) : ReadsRdx v :=
  fun s₁ s₂ hcfg h => by rw [hv s₁, hv s₂, h.rdxPart_eq hcfg]

theorem readsDim_const {α : Type} (a : α) : ReadsDim fun _ => a := fun _ _ _ _ => rfl

/-- An update of the state that writes no DIM register and moves the RDX state as that and the parameters determine. -/
structure StaysInRdx (f : State → State) : Prop where
  frame : ∀ s, (f s).SameDim s
  congr : ∀ s₁ s₂, s₁.cfg = s₂.cfg → s₁.SameRdx s₂ → (f s₁).SameRdx (f s₂)

/-- An update of the state that writes no RDX register and moves the DIM state as that and the parameters determine. -/
structure StaysInDim (f : State → State) : Prop where
  frame : ∀ s, (f s).SameRdx s
  congr : ∀ s₁ s₂, s₁.cfg = s₂.cfg → s₁.SameDim s₂ → (f s₁).SameDim (f s₂)

theorem State.SameRdx.refl (s : State) : s.SameRdx s := ⟨rfl, rfl, rfl, rfl, rfl⟩

theorem State.SameDim.refl (s : State) : s.SameDim s := ⟨rfl, rfl, rfl, rfl, rfl, rfl, rfl, rfl, rfl, rfl⟩

/-- Answering keeps an update inside the report unit. -/
theorem StaysInRdx.answer {f : State → State} (hf : StaysInRdx f) (r : State → Response) :
    StaysInRdx fun s => (f s).answer (r s) where
  frame s := { hf.frame s with }
  congr s₁ s₂ hcfg h := { hf.congr s₁ s₂ hcfg h with }

/-- Answering keeps an update inside the DIM unit. -/
theorem StaysInDim.answer {f : State → State} (hf : StaysInDim f) (r : State → Response) :
    StaysInDim fun s => (f s).answer (r s) where
  frame s := { hf.frame s with }
  congr s₁ s₂ hcfg h := { hf.congr s₁ s₂ hcfg h with }

/-! ## The updates of the report unit -/

theorem staysInRdx_id : StaysInRdx id := ⟨State.SameDim.refl, fun _ _ _ h => h⟩

theorem staysInRdx_rewind_clearResult : StaysInRdx fun s => s.rewind.clearResult where
  frame _ := by constructor <;> simp
  congr _ _ _ h := by constructor <;> simp [h.rb]

theorem staysInRdx_storeByte_clearResult (b : Byte) : StaysInRdx fun s => (s.storeByte b).clearResult where
  frame _ := by constructor <;> simp
  congr s₁ s₂ _ h := by
    have hfull : s₁.full = s₂.full := by simp [State.full, h.len]
    constructor <;> simp [State.storeByte, hfull, h.rb, h.len, apply_ite State.rb, apply_ite State.len]

/-- What a `DEC` writes to the three result registers, and its response. -/
structure DecOutcome where
  res : Res
  trn : Transport
  errb : Byte
  reply : Response

/-- The outcome of a `DEC`: the length is checked before the discriminator (40_control_ops.md R72). -/
def decOutcome (s : State) : DecOutcome :=
  if s.full then
    if s.rb.read 0 = s.cfg.discUsb then ⟨.ok, .usb, 0x00#8, ⟨.ok, 0#32⟩⟩
    else if s.rb.read 0 = s.cfg.discBt then ⟨.ok, .bluetooth, 0x00#8, ⟨.ok, 1#32⟩⟩
    else ⟨.unknownTransport, .usb, s.rb.read 0, ⟨.eUnknownTransport, zext32 (s.rb.read 0)⟩⟩
  else ⟨.truncated, .usb, 0x00#8, ⟨.eTruncated, zext32 s.len⟩⟩

/-- The state after the result registers of a `DEC` are written. -/
def State.recordDec (s : State) : State :=
  s.setResult (decOutcome s).res (decOutcome s).trn (decOutcome s).errb

/-- A `DEC` records its outcome and answers it. -/
theorem exec_dec (s : State) : exec .dec s = .next (s.recordDec.answer (decOutcome s).reply) := by
  change execDec s = _
  unfold execDec State.recordDec decOutcome
  split_ifs <;> rfl

theorem readsRdx_decOutcome : ReadsRdx decOutcome := readsRdx_of_rdxPart fun _ => rfl

theorem staysInRdx_recordDec : StaysInRdx State.recordDec where
  frame _ := by constructor <;> rfl
  congr s₁ s₂ hcfg h := by
    have hout := readsRdx_decOutcome s₁ s₂ hcfg h
    constructor <;> simp [State.recordDec, hout, h.rb, h.len]

/-! ## The updates of the DIM unit -/

theorem staysInDim_id : StaysInDim id := ⟨State.SameRdx.refl, fun _ _ _ h => h⟩

theorem staysInDim_beginRecord (k : DevClass) : StaysInDim fun s => s.beginRecord k where
  frame _ := by constructor <;> simp
  congr _ _ _ h := by constructor <;> simp [h.ven, h.pro, h.cmb, h.cidx, h.mcnt, h.mlast]

theorem staysInDim_beginRecord_clearScan (k : DevClass) : StaysInDim fun s => (s.beginRecord k).clearScan where
  frame _ := by constructor <;> simp
  congr _ _ _ h := by constructor <;> simp [h.ven, h.pro, h.cmb]

theorem staysInDim_appendVen (c : Byte) : StaysInDim fun s => s.appendVen c where
  frame _ := by constructor <;> simp
  congr _ _ _ h := by
    simp only [State.appendVen, h.ven, h.vlen]
    split <;> exact { h with ven := rfl, vlen := rfl }

theorem staysInDim_appendPro (c : Byte) : StaysInDim fun s => s.appendPro c where
  frame _ := by constructor <;> simp
  congr _ _ _ h := by
    simp only [State.appendPro, h.pro, h.plen]
    split <;> exact { h with pro := rfl, plen := rfl }

theorem staysInDim_appendCmb (c : Byte) : StaysInDim fun s => s.appendCmb c where
  frame _ := by constructor <;> simp
  congr _ _ hcfg h := by
    simp only [State.appendCmb, hcfg, h.cmb, h.clen]
    split <;> exact { h with cmb := rfl, clen := rfl }

/-- The match predicate reads the record and the literals (46_matcher.md R138). -/
theorem readsDim_recordMatches : ReadsDim State.recordMatches := fun _ _ hcfg h => by
  simp only [State.recordMatches, State.isCandidate, State.splitMatches, State.combinedMatches, hcfg, h.cls, h.ven,
    h.vlen, h.pro, h.plen, h.cmb, h.clen]

theorem staysInDim_recordTest : StaysInDim fun s => s.recordTest s.recordMatches where
  frame _ := by constructor <;> simp
  congr s₁ s₂ hcfg h := by
    have hm := readsDim_recordMatches s₁ s₂ hcfg h
    constructor <;> simp [hm, h.cls, h.ven, h.vlen, h.pro, h.plen, h.cmb, h.clen, h.cidx, h.mcnt]

/-! ## Commands of the report unit -/

/-- Every accessor answers a response when the report is decoded, read off the parameters and the RDX state alone. -/
theorem exec_accessor (i : Instr) (h : i.isRd = true) :
    ∃ v : State → Response, (∀ s, exec i s = s.whenDecoded (.next (s.answer (v s)))) ∧ ∀ s, v s = v s.rdxPart := by
  cases i with
  | clr | push | dec | stat | mrst | mcls0 | mcls1 | mcls2 | mven | mpro | mcmb | mtest | mstat => cases h
  | rdDpad =>
    refine ⟨fun s => if s.dpadNibble.toNat ≤ 8 then ⟨.ok, zext32 s.dpadNibble⟩
      else ⟨.fDpadInvariant, zext32 s.dpadNibble⟩, fun s => ?_, fun _ => rfl⟩
    rw [exec_rdDpad]
    dsimp only
    split_ifs <;> rfl
  | _ => exact ⟨_, fun _ => rfl, fun _ => rfl⟩

/-- Every accessor answers one response, decoded or not, and writes nothing else (40_control_ops.md R74). -/
theorem exec_accessor_answers (i : Instr) (h : i.isRd = true) :
    ∃ r : State → Response, ReadsRdx r ∧ ∀ s, exec i s = .next (s.answer (r s)) := by
  obtain ⟨v, hexec, hv⟩ := exec_accessor i h
  refine ⟨fun s => if s.res = .ok then v s else ⟨.fNotDecoded, s.res.bits.setWidth 32⟩,
    readsRdx_of_rdxPart fun s => by rw [hv s]; rfl, fun s => ?_⟩
  dsimp only
  rw [hexec]
  split_ifs with hres
  · exact State.whenDecoded_ok hres _
  · exact State.whenDecoded_not_ok hres _

/-- A command outside the DIM unit is a control command or an accessor. -/
theorem isRd_or_control_of_not_isDim {i : Instr} (h : i.isDim = false) :
    i.isRd = true ∨ i = .clr ∨ (∃ b, i = .push b) ∨ i = .dec ∨ i = .stat := by
  cases i with
  | mrst | mcls0 | mcls1 | mcls2 | mven | mpro | mcmb | mtest | mstat => cases h
  | clr | push | dec | stat => simp
  | _ => exact .inl rfl

/-- All that a command of the report unit does: it updates RDX state and answers from RDX state. -/
theorem exec_stays_in_rdx (i : Instr) (h : i.isDim = false) :
    ∃ (f : State → State) (r : State → Response), StaysInRdx f ∧ ReadsRdx r ∧
      ∀ s, exec i s = .next ((f s).answer (r s)) := by
  rcases isRd_or_control_of_not_isDim h with hrd | rfl | ⟨b, rfl⟩ | rfl | rfl
  · obtain ⟨r, hr, hexec⟩ := exec_accessor_answers i hrd
    exact ⟨id, r, staysInRdx_id, hr, hexec⟩
  · exact ⟨_, _, staysInRdx_rewind_clearResult, readsRdx_of_rdxPart fun _ => rfl, fun _ => rfl⟩
  · exact ⟨_, _, staysInRdx_storeByte_clearResult b, readsRdx_of_rdxPart fun _ => rfl, fun _ => rfl⟩
  · exact ⟨_, fun s => (decOutcome s).reply, staysInRdx_recordDec, readsRdx_of_rdxPart fun _ => rfl, exec_dec⟩
  · exact ⟨id, fun s => ⟨.ok, s.statusWord⟩, staysInRdx_id, readsRdx_of_rdxPart fun _ => rfl, fun _ => rfl⟩

/-! ## Commands of the DIM unit -/

/-- A command of the DIM unit updates DIM state and answers a value when the unit is present. -/
theorem exec_whenDim (i : Instr) (h : i.isDim = true) :
    ∃ (f : State → State) (v : State → RspData), StaysInDim f ∧ ReadsDim v ∧
      ∀ s, exec i s = s.whenDim (encode i) ((f s).respond (v s)) := by
  cases i with
  | mrst => exact ⟨_, _, staysInDim_beginRecord_clearScan .other, readsDim_const 0#32, fun _ => rfl⟩
  | mcls0 => exact ⟨_, _, staysInDim_beginRecord .other, readsDim_const 0#32, fun _ => rfl⟩
  | mcls1 => exact ⟨_, _, staysInDim_beginRecord .input, readsDim_const 0#32, fun _ => rfl⟩
  | mcls2 => exact ⟨_, _, staysInDim_beginRecord .hid, readsDim_const 0#32, fun _ => rfl⟩
  | mven c => exact ⟨_, _, staysInDim_appendVen c, readsDim_const 0#32, fun _ => rfl⟩
  | mpro c => exact ⟨_, _, staysInDim_appendPro c, readsDim_const 0#32, fun _ => rfl⟩
  | mcmb c => exact ⟨_, _, staysInDim_appendCmb c, readsDim_const 0#32, fun _ => rfl⟩
  | mtest =>
    refine ⟨_, fun s => testWord s.cidx s.recordMatches, staysInDim_recordTest, fun s₁ s₂ hcfg h => ?_, fun _ => rfl⟩
    simp only [h.cidx, readsDim_recordMatches s₁ s₂ hcfg h]
  | mstat =>
    refine ⟨id, State.dimStatusWord, staysInDim_id, fun s₁ s₂ _ h => ?_, fun _ => rfl⟩
    simp only [State.dimStatusWord, h.cidx, h.mcnt]
  | _ => cases h

/-- All that a command of the DIM unit does, present or absent: it updates DIM state and answers from DIM state. -/
theorem exec_stays_in_dim (i : Instr) (h : i.isDim = true) :
    ∃ (f : State → State) (r : State → Response), StaysInDim f ∧ ReadsDim r ∧
      ∀ s, exec i s = .next ((f s).answer (r s)) := by
  obtain ⟨f, v, hf, hv, hexec⟩ := exec_whenDim i h
  refine ⟨fun s => if s.cfg.hasDim then f s else s,
    fun s => if s.cfg.hasDim then ⟨.ok, v s⟩ else ⟨.fIllegalCmd, (encode i).setWidth 32⟩, ⟨fun s => ?_, ?_⟩, ?_, ?_⟩
  · split
    · exact hf.frame s
    · exact State.SameRdx.refl s
  · intro s₁ s₂ hcfg hdim
    rw [hcfg]
    split
    · exact hf.congr s₁ s₂ hcfg hdim
    · exact hdim
  · intro s₁ s₂ hcfg hdim
    simp only [hcfg, hv s₁ s₂ hcfg hdim]
  · intro s
    dsimp only
    rw [hexec]
    split_ifs with hpresent
    · exact State.whenDim_present hpresent ..
    · exact State.whenDim_absent (by simpa using hpresent) ..

/-! ## Sound decoded states -/

/-- In a sound decoded state the discriminator byte determines the transport (10_state.md R19, R20). -/
theorem State.Sound.trn_eq {s : State} (hs : s.Sound) (hok : s.res = .ok) :
    s.trn = if s.rb.read 0 = s.cfg.discUsb then .usb else .bluetooth := by
  cases htrn : s.trn with
  | usb => rw [if_pos (hs.ok_usb hok htrn)]
  | bluetooth => rw [if_neg (hs.ok_bluetooth hok htrn ▸ s.cfg.discBt_ne_discUsb)]

/-- The 64 stored bytes and the parameters determine the whole RDX state of a sound decoded state. -/
theorem State.Sound.sameRdx_of_sameBytes {s₁ s₂ : State} (h₁ : s₁.Sound) (h₂ : s₂.Sound) (hok₁ : s₁.res = .ok)
    (hok₂ : s₂.res = .ok) (hcfg : s₁.cfg = s₂.cfg) (hbytes : SameBytes s₁ s₂) : s₁.SameRdx s₂ := by
  have hrb : s₁.rb = s₂.rb := Memory.eq_of_wf_of_read_eq h₁.rb_wf h₂.rb_wf hbytes
  refine ⟨hrb, ?_, hok₁.trans hok₂.symm, ?_, ?_⟩
  · exact BitVec.eq_of_toNat_eq ((h₁.ok_full hok₁).trans (h₂.ok_full hok₂).symm)
  · rw [h₁.trn_eq hok₁, h₂.trn_eq hok₂, hrb, hcfg]
  · rw [h₁.errb_clear (by simp [hok₁]), h₂.errb_clear (by simp [hok₂])]

end Sys2Proof.Machine

namespace Sys2Proof.Proofs

open Sys2Proof.Machine

/-- Settles O15: an accessor, decoded or not, only answers. -/
theorem accessorsWriteNoState : Obligations.AccessorsWriteNoState := by
  intro i s hrd
  obtain ⟨r, -, hexec⟩ := exec_accessor_answers i hrd
  exact ⟨r s, hexec s⟩

/-- Settles O17: the bytes and the parameters determine the RDX state, and an accessor reads nothing else. -/
theorem accessorsDependOnTheReportAlone : Obligations.AccessorsDependOnTheReportAlone := by
  intro i s₁ s₂ t₁ t₂ hrd hs₁ hs₂ hok₁ hok₂ hcfg hbytes he₁ he₂
  obtain ⟨r, hr, hexec⟩ := exec_accessor_answers i hrd
  have hsame : s₁.SameRdx s₂ := hs₁.sameRdx_of_sameBytes hs₂ hok₁ hok₂ hcfg hbytes
  rw [hexec] at he₁ he₂
  cases he₁
  cases he₂
  exact congrArg some (hr s₁ s₂ hcfg hsame)

/-- Settles O42: the frame of each unit's updates, which answering does not leave. -/
theorem unitsDoNotTouchEachOther : Obligations.UnitsDoNotTouchEachOther := by
  intro i s t he
  constructor
  · intro hdim
    obtain ⟨f, r, hf, -, hexec⟩ := exec_stays_in_dim i hdim
    rw [hexec] at he
    cases he
    exact (hf.answer r).frame s
  · intro hrdx
    obtain ⟨f, r, hf, -, hexec⟩ := exec_stays_in_rdx i hrdx
    rw [hexec] at he
    cases he
    exact (hf.answer r).frame s

/-- Settles O43: each unit's commands read and move their own unit's state. -/
theorem unitsDoNotSeeEachOther : Obligations.UnitsDoNotSeeEachOther := by
  intro i s₁ s₂ t₁ t₂ hcfg he₁ he₂
  constructor
  · intro hdim hsame
    obtain ⟨f, r, hf, hr, hexec⟩ := exec_stays_in_dim i hdim
    rw [hexec] at he₁ he₂
    cases he₁
    cases he₂
    exact ⟨congrArg some (hr s₁ s₂ hcfg hsame), (hf.answer r).congr s₁ s₂ hcfg hsame⟩
  · intro hrdx hsame
    obtain ⟨f, r, hf, hr, hexec⟩ := exec_stays_in_rdx i hrdx
    rw [hexec] at he₁ he₂
    cases he₁
    cases he₂
    exact ⟨congrArg some (hr s₁ s₂ hcfg hsame), (hf.answer r).congr s₁ s₂ hcfg hsame⟩

end Sys2Proof.Proofs
end

section
/-! PROOFS. The instruction a word decodes to encodes back to that word (30_encoding.md R59 to R63). -/

namespace Sys2Proof

theorem encode_of_decodeSelect {f : Byte} {i : Instr} (h : decodeSelect f = .ok i) : encode i = cmdWord 0x03#8 f := by
  unfold decodeSelect at h
  split at h <;> cases h <;> rfl

theorem encode_of_decodeClass {f : Byte} {i : Instr} (h : decodeClass f = .ok i) : encode i = cmdWord 0x11#8 f := by
  unfold decodeClass at h
  split at h <;> cases h <;> rfl

theorem encode_of_decodeNoOperand {op arg : Byte} {i j : Instr} (h : decodeNoOperand arg i = .ok j)
    (hi : encode i = cmdWord op 0x00#8) : encode j = cmdWord op arg := by
  unfold decodeNoOperand at h
  split at h
  next harg => cases h; rw [hi, harg]
  next => cases h

/-- No two words decode to one instruction: the instruction tells its word. -/
theorem encode_of_decode {w : CmdWord} {i : Instr} (h : decode w = .ok i) : encode i = w := by
  suffices encode i = cmdWord (cmdOp w) (cmdArg w) from this.trans (cmdWord_eta w)
  unfold decode at h
  split at h
  next hop => rw [hop]; exact encode_of_decodeNoOperand h rfl
  next hop => cases h; rw [hop]; rfl
  next hop => rw [hop]; exact encode_of_decodeNoOperand h rfl
  next hop => rw [hop]; exact encode_of_decodeSelect h
  next hop => rw [hop]; exact encode_of_decodeNoOperand h rfl
  next hop => rw [hop]; exact encode_of_decodeNoOperand h rfl
  next hop => rw [hop]; exact encode_of_decodeClass h
  next hop => cases h; rw [hop]; rfl
  next hop => cases h; rw [hop]; rfl
  next hop => cases h; rw [hop]; rfl
  next hop => rw [hop]; exact encode_of_decodeNoOperand h rfl
  next hop => rw [hop]; exact encode_of_decodeNoOperand h rfl
  next => cases h

end Sys2Proof
end

section
/-! PROOFS. What a step can do (20_memory.md R44): every command makes one of ten updates of the registers and answers
one response. -/

namespace Sys2Proof.Machine

/-- The updates of the registers that a command can make, the response aside: the report unit's, and those of the DIM
unit where it is present (40_control_ops.md R70 to R74; 46_matcher.md R139 to R145). -/
inductive Updates : Instr → State → State → Prop
  | keep (i : Instr) (s : State) : Updates i s s
  | rewind (s : State) : Updates .clr s s.rewind.clearResult
  | storeByte (b : Byte) (s : State) : Updates (.push b) s (s.storeByte b).clearResult
  | recordDec (s : State) : Updates .dec s s.recordDec
  | beginScan {s : State} (h : s.cfg.hasDim = true) : Updates .mrst s (s.beginRecord .other).clearScan
  | beginRecord (k : DevClass) {s : State} (h : s.cfg.hasDim = true) : Updates k.mcls s (s.beginRecord k)
  | appendVen (c : Byte) {s : State} (h : s.cfg.hasDim = true) : Updates (.mven c) s (s.appendVen c)
  | appendPro (c : Byte) {s : State} (h : s.cfg.hasDim = true) : Updates (.mpro c) s (s.appendPro c)
  | appendCmb (c : Byte) {s : State} (h : s.cfg.hasDim = true) : Updates (.mcmb c) s (s.appendCmb c)
  | recordTest {s : State} (h : s.cfg.hasDim = true) : Updates .mtest s (s.recordTest s.recordMatches)

/-- A command of the DIM unit makes its update where the unit is present, and none where it is absent. -/
theorem updates_whenDim {i : Instr} {s u : State} (w : CmdWord) (v : RspData)
    (hu : s.cfg.hasDim = true → Updates i s u) :
    ∃ u' r, Updates i s u' ∧ s.whenDim w (u.respond v) = .next (u'.answer r) := by
  cases hdim : s.cfg.hasDim with
  | true => exact ⟨u, _, hu hdim, State.whenDim_present hdim ..⟩
  | false => exact ⟨s, _, .keep i s, State.whenDim_absent hdim ..⟩

/-- All that a command does: one update of the registers, then one response. -/
theorem exec_updates (i : Instr) (s : State) : ∃ u r, Updates i s u ∧ exec i s = .next (u.answer r) := by
  cases hdim : i.isDim with
  | false =>
    rcases isRd_or_control_of_not_isDim hdim with hrd | rfl | ⟨b, rfl⟩ | rfl | rfl
    · obtain ⟨r, -, hexec⟩ := exec_accessor_answers i hrd
      exact ⟨s, r s, .keep i s, hexec s⟩
    · exact ⟨_, _, .rewind s, rfl⟩
    · exact ⟨_, _, .storeByte b s, rfl⟩
    · exact ⟨_, _, .recordDec s, exec_dec s⟩
    · exact ⟨_, _, .keep .stat s, rfl⟩
  | true =>
    cases i with
    | mrst => exact updates_whenDim _ _ .beginScan
    | mcls0 => exact updates_whenDim _ _ (.beginRecord .other)
    | mcls1 => exact updates_whenDim _ _ (.beginRecord .input)
    | mcls2 => exact updates_whenDim _ _ (.beginRecord .hid)
    | mven c => exact updates_whenDim _ _ (.appendVen c)
    | mpro c => exact updates_whenDim _ _ (.appendPro c)
    | mcmb c => exact updates_whenDim _ _ (.appendCmb c)
    | mtest => exact updates_whenDim _ _ .recordTest
    | mstat => exact updates_whenDim _ _ fun _ => .keep .mstat s
    | _ => cases hdim

/-- All that a step does: it waits, answers a reserved word, or makes the update of the command it takes. -/
theorem step_cases {s t : State} (h : step s = .next t) :
    t = s.idle ∨ (∃ rest r, t = (s.accept rest).answer r) ∨
      ∃ w rest i u r, s.cmds = w :: rest ∧ decode w = .ok i ∧ Updates i (s.accept rest) u ∧ t = u.answer r := by
  unfold step at h
  split at h
  next => cases h; exact .inl rfl
  next w rest hcmds =>
    split at h
    next i hdec =>
      obtain ⟨u, r, hu, hexec⟩ := exec_updates i (s.accept rest)
      rw [hexec] at h
      cases h
      exact .inr (.inr ⟨w, rest, i, u, r, hcmds, hdec, hu, rfl⟩)
    next => exact .inr (.inl ⟨rest, _, State.illegalCommand_next.mp h⟩)

/-! ## Frames -/

theorem Updates.cfg_eq {i : Instr} {s u : State} (h : Updates i s u) : u.cfg = s.cfg := by
  cases h with
  | recordDec => rfl
  | _ => simp

/-- Only `PUSH` writes the buffer (10_state.md R16). -/
theorem Updates.rb_eq {i : Instr} {s u : State} (h : Updates i s u) (hpush : ∀ b, i ≠ .push b) : u.rb = s.rb := by
  cases h with
  | storeByte b => exact absurd rfl (hpush b)
  | recordDec => rfl
  | _ => simp

/-- Only `PUSH` and `CLR` move `LEN` (10_state.md R17, R18). -/
theorem Updates.len_eq {i : Instr} {s u : State} (h : Updates i s u) (hpush : ∀ b, i ≠ .push b) (hclr : i ≠ .clr) :
    u.len = s.len := by
  cases h with
  | rewind => exact absurd rfl hclr
  | storeByte b => exact absurd rfl (hpush b)
  | recordDec => rfl
  | _ => simp

end Sys2Proof.Machine

namespace Sys2Proof.Proofs

open Sys2Proof.Machine

/-- Settles O35: the frames of the updates, with the word told by the instruction it decodes to. -/
theorem onlyPushWritesTheBuffer : Obligations.OnlyPushWritesTheBuffer := by
  intro s t hstep
  rcases step_cases hstep with rfl | ⟨rest, r, rfl⟩ | ⟨w, rest, i, u, r, hcmds, hdec, hu, rfl⟩
  · exact ⟨fun _ => rfl, fun _ _ => rfl⟩
  · exact ⟨fun _ => rfl, fun _ _ => rfl⟩
  · have htaken : s.cmds = encode i :: rest := by rw [encode_of_decode hdec, hcmds]
    have hpush (h : ∀ b rest, s.cmds ≠ encode (.push b) :: rest) (b : Byte) : i ≠ .push b := by
      rintro rfl
      exact h b rest htaken
    refine ⟨fun h => hu.rb_eq (hpush h), fun h hclr => hu.len_eq (hpush h) ?_⟩
    rintro rfl
    exact hclr rest htaken

/-- Settles O41: no update writes the parameters. -/
theorem parametersNeverChange : Obligations.ParametersNeverChange := by
  intro s t hstep
  rcases step_cases hstep with rfl | ⟨rest, r, rfl⟩ | ⟨w, rest, i, u, r, -, -, hu, rfl⟩
  · rfl
  · rfl
  · exact hu.cfg_eq

end Sys2Proof.Proofs
end

section
/-! PROOFS. The soundness of the state (10_state.md R17 to R26) holds at reset, and every update a command can make
keeps it. -/

namespace Sys2Proof

/-- A byte that is neither discriminator of the configuration is neither of the two bytes of 00_scope.md R7. -/
theorem Config.ne_discriminators (c : Config) {b : Byte} (husb : b ≠ c.discUsb) (hbt : b ≠ c.discBt) :
    b ≠ 0x01#8 ∧ b ≠ 0x31#8 := by
  obtain ⟨-, -, -, hdisc⟩ := Params.layoutOK_clauses (Params.layoutOK_of_admitted c.isAdmitted)
  rcases (Params.discsOK_iff _).mp hdisc with ⟨hu, hb⟩ | ⟨hu, hb⟩
  · exact ⟨hu ▸ husb, hb ▸ hbt⟩
  · exact ⟨hb ▸ hbt, hu ▸ husb⟩

end Sys2Proof

namespace Sys2Proof.Machine

/-- Every clause holds of the registers as reset leaves them (10_state.md R30). -/
theorem State.sound_resetWith (c : Config) : (State.resetWith c).Sound := by
  constructor <;> simp

theorem State.Sound.answer {s : State} (hs : s.Sound) (r : Response) : (s.answer r).Sound := { hs with }

theorem State.Sound.accept {s : State} (hs : s.Sound) (rest : List CmdWord) : (s.accept rest).Sound := { hs with }

theorem State.Sound.idle {s : State} (hs : s.Sound) : s.idle.Sound := { hs with }

/-- The values of `RES`, `TRN` and `ERRB` that fit the buffer and its length (10_state.md R19 to R22). -/
inductive State.ResultFits (s : State) : Res → Transport → Byte → Prop
  | none : s.ResultFits .none .usb 0x00#8
  | usb (hlen : s.len.toNat = reportLen) (hdisc : s.rb.read 0 = s.cfg.discUsb) : s.ResultFits .ok .usb 0x00#8
  | bluetooth (hlen : s.len.toNat = reportLen) (hdisc : s.rb.read 0 = s.cfg.discBt) :
    s.ResultFits .ok .bluetooth 0x00#8
  | truncated (hlen : s.len.toNat < reportLen) : s.ResultFits .truncated .usb 0x00#8
  | unknownTransport (hlen : s.len.toNat = reportLen) (hdisc : s.rb.read 0 ≠ 0x01#8 ∧ s.rb.read 0 ≠ 0x31#8) :
    s.ResultFits .unknownTransport .usb (s.rb.read 0)

/-- Results that fit keep a state sound. -/
theorem State.Sound.setResult {s : State} {res : Res} {trn : Transport} {errb : Byte} (hs : s.Sound)
    (h : s.ResultFits res trn errb) : (s.setResult res trn errb).Sound := by
  cases h <;> exact
    { hs with
      ok_full := by rintro ⟨⟩ <;> assumption
      ok_usb := by rintro ⟨⟩ ⟨⟩ <;> assumption
      ok_bluetooth := by rintro ⟨⟩ ⟨⟩ <;> assumption
      truncated_short := by rintro ⟨⟩ <;> assumption
      unknown_full := by rintro ⟨⟩ <;> assumption
      unknown_disc := by rintro ⟨⟩ <;> assumption
      unknown_errb := by rintro ⟨⟩ <;> rfl
      trn_clear := by simp
      errb_clear := by simp }

theorem State.Sound.clearResult {s : State} (hs : s.Sound) : s.clearResult.Sound := hs.setResult .none

/-- Whatever a `DEC` finds, what it records fits (40_control_ops.md R72). -/
theorem State.resultFits_decOutcome {s : State} (hlen : s.len.toNat ≤ reportLen) :
    s.ResultFits (decOutcome s).res (decOutcome s).trn (decOutcome s).errb := by
  unfold decOutcome
  split_ifs with hfull husb hbt
  · exact .usb (hlen.antisymm (State.full_iff.mp hfull)) husb
  · exact .bluetooth (hlen.antisymm (State.full_iff.mp hfull)) hbt
  · exact .unknownTransport (hlen.antisymm (State.full_iff.mp hfull)) (s.cfg.ne_discriminators husb hbt)
  · exact .truncated (State.not_full_iff.mp (by simpa using hfull))

/-- While there is no result, the buffer and its length may take any values in range. -/
theorem State.Sound.refill {s : State} (hs : s.Sound) (hres : s.res = .none) {m : Memory} {n : BitVec 7}
    (hm : m.wf reportLen = true) (hn : n.toNat ≤ reportLen) : ({ s with rb := m, len := n } : State).Sound :=
  { hs with
    rb_wf := hm
    len_le := hn
    ok_full := by simp [hres]
    ok_usb := by simp [hres]
    ok_bluetooth := by simp [hres]
    truncated_short := by simp [hres]
    unknown_full := by simp [hres]
    unknown_disc := by simp [hres]
    unknown_errb := by simp [hres] }

/-- Storing a byte writes the buffer and `LEN` and nothing else. -/
theorem State.storeByte_eta (s : State) (b : Byte) :
    s.storeByte b = { s with rb := (s.storeByte b).rb, len := (s.storeByte b).len } := by
  unfold State.storeByte; split <;> rfl

theorem State.storeByte_len_le {s : State} (b : Byte) (h : s.len.toNat ≤ reportLen) :
    (s.storeByte b).len.toNat ≤ reportLen := by
  cases hfull : s.full with
  | true => rwa [State.storeByte_full hfull]
  | false =>
    have hroom := State.not_full_iff.mp hfull
    rw [(State.storeByte_room hroom b).1]
    exact hroom

theorem State.Sound.rewind_clearResult {s : State} (hs : s.Sound) : s.rewind.clearResult.Sound :=
  hs.clearResult.refill rfl hs.rb_wf (Nat.zero_le _)

theorem State.Sound.storeByte_clearResult {s : State} (hs : s.Sound) (b : Byte) :
    (s.storeByte b).clearResult.Sound := by
  rw [State.storeByte_eta]
  exact hs.clearResult.refill rfl (State.storeByte_rb_wf b hs.rb_wf) (State.storeByte_len_le b hs.len_le)

theorem State.Sound.beginRecord {s : State} (hs : s.Sound) (hdim : s.cfg.hasDim = true) (k : DevClass) :
    (s.beginRecord k).Sound :=
  { hs with
    vlen_le := Nat.zero_le _
    plen_le := Nat.zero_le _
    clen_le := Nat.zero_le _
    dim_absent := fun habsent => nomatch hdim.symm.trans habsent }

theorem State.Sound.clearScan {s : State} (hs : s.Sound) (hdim : s.cfg.hasDim = true) : s.clearScan.Sound :=
  { hs with
    mcnt_le := le_rfl
    mlast_counted := nofun
    dim_absent := fun habsent => nomatch hdim.symm.trans habsent }

/-- Appending to the vendor-ID string writes the string and its length and nothing else. -/
theorem State.appendVen_eta (s : State) (c : Byte) :
    s.appendVen c = { s with ven := (s.appendVen c).ven, vlen := (s.appendVen c).vlen } := by
  unfold State.appendVen; split <;> rfl

theorem State.appendPro_eta (s : State) (c : Byte) :
    s.appendPro c = { s with pro := (s.appendPro c).pro, plen := (s.appendPro c).plen } := by
  unfold State.appendPro; split <;> rfl

theorem State.appendCmb_eta (s : State) (c : Byte) :
    s.appendCmb c = { s with cmb := (s.appendCmb c).cmb, clen := (s.appendCmb c).clen } := by
  unfold State.appendCmb; split <;> rfl

/-- No append leaves a length above one past the string's capacity (10_state.md R25). -/
theorem State.appendVen_vlen_le (s : State) (c : Byte) : (s.appendVen c).vlen.toNat ≤ 5 := by
  obtain ⟨hroom, hlong⟩ := s.appendVen_spec c
  by_cases h : s.vlen.toNat < 4
  · rw [(hroom h).1]; omega
  · rw [(hlong (Nat.not_lt.mp h)).1]; decide

theorem State.appendPro_plen_le (s : State) (c : Byte) : (s.appendPro c).plen.toNat ≤ 5 := by
  obtain ⟨hroom, hlong⟩ := s.appendPro_spec c
  by_cases h : s.plen.toNat < 4
  · rw [(hroom h).1]; omega
  · rw [(hlong (Nat.not_lt.mp h)).1]; decide

theorem State.appendCmb_clen_le (s : State) (c : Byte) : (s.appendCmb c).clen ≤ s.cfg.ccap + 1 := by
  obtain ⟨hroom, hlong⟩ := s.appendCmb_spec c
  by_cases h : s.clen < s.cfg.ccap
  · rw [(hroom h).1]; omega
  · rw [(hlong (Nat.not_lt.mp h)).1]

theorem State.Sound.appendVen {s : State} (hs : s.Sound) (hdim : s.cfg.hasDim = true) (c : Byte) :
    (s.appendVen c).Sound := by
  rw [State.appendVen_eta]
  exact
    { hs with
      ven_wf := State.appendVen_wf c hs.ven_wf
      vlen_le := s.appendVen_vlen_le c
      dim_absent := fun habsent => nomatch hdim.symm.trans habsent }

theorem State.Sound.appendPro {s : State} (hs : s.Sound) (hdim : s.cfg.hasDim = true) (c : Byte) :
    (s.appendPro c).Sound := by
  rw [State.appendPro_eta]
  exact
    { hs with
      pro_wf := State.appendPro_wf c hs.pro_wf
      plen_le := s.appendPro_plen_le c
      dim_absent := fun habsent => nomatch hdim.symm.trans habsent }

theorem State.Sound.appendCmb {s : State} (hs : s.Sound) (hdim : s.cfg.hasDim = true) (c : Byte) :
    (s.appendCmb c).Sound := by
  rw [State.appendCmb_eta]
  exact
    { hs with
      cmb_wf := State.appendCmb_wf c hs.cmb_wf
      clen_le := s.appendCmb_clen_le c
      dim_absent := fun habsent => nomatch hdim.symm.trans habsent }

/-- A test counts in `CIDX` whatever it counts in `MCNT` (46_matcher.md R144). -/
theorem State.Sound.recordTest {s : State} (hs : s.Sound) (hdim : s.cfg.hasDim = true) (m : Bool) :
    (s.recordTest m).Sound :=
  { hs with
    mcnt_le := by
      have hle := hs.mcnt_le
      have hlt := s.cidx.isLt
      rw [State.recordTest_mcnt, State.recordTest_cidx]
      split
      · rw [countUp_toNat, countUp_toNat]; omega
      · rw [countUp_toNat]; omega
    mlast_counted := by
      rintro rfl
      simp [countUp_toNat]
    dim_absent := fun habsent => nomatch hdim.symm.trans habsent }

/-- Every update of a command keeps a state sound. -/
theorem Updates.sound {i : Instr} {s u : State} (h : Updates i s u) (hs : s.Sound) : u.Sound := by
  cases h with
  | keep => exact hs
  | rewind => exact hs.rewind_clearResult
  | storeByte b => exact hs.storeByte_clearResult b
  | recordDec => exact hs.setResult (State.resultFits_decOutcome hs.len_le)
  | beginScan hdim => exact (hs.beginRecord hdim .other).clearScan hdim
  | beginRecord k hdim => exact hs.beginRecord hdim k
  | appendVen c hdim => exact hs.appendVen hdim c
  | appendPro c hdim => exact hs.appendPro hdim c
  | appendCmb c hdim => exact hs.appendCmb hdim c
  | recordTest hdim => exact hs.recordTest hdim _

end Sys2Proof.Machine

namespace Sys2Proof.Proofs

open Sys2Proof.Machine

/-- Settles O40: the clauses read off the reset values, whatever the configuration. -/
theorem resetIsSound : Obligations.ResetIsSound := State.sound_resetWith

/-- Settles O39: the soundness of each update, by the cases of a step. -/
theorem stepKeepsTheStateSound : Obligations.StepKeepsTheStateSound := by
  intro s t hs hstep
  rcases step_cases hstep with rfl | ⟨rest, r, rfl⟩ | ⟨w, rest, i, u, r, -, -, hu, rfl⟩
  · exact hs.idle
  · exact (hs.accept rest).answer r
  · exact (hu.sound (hs.accept rest)).answer r

end Sys2Proof.Proofs
end

section
/-! PROOFS. A run of tests of one record in closed form (46_matcher.md R144). -/

namespace Sys2Proof.Machine

theorem countUp_iterate_toNat (v : BitVec 16) (n : Nat) : (countUp^[n] v).toNat = min (v.toNat + n) 0xFFFF := by
  induction n generalizing v with
  | zero => exact (Nat.min_eq_left (Nat.le_of_lt_succ v.isLt)).symm
  | succ n ih => rw [Function.iterate_succ_apply, ih, countUp_toNat]; omega

/-- The state after a test of the record (46_matcher.md R144). -/
def State.tested (s : State) : State :=
  (s.recordTest s.recordMatches).answer ⟨.ok, testWord s.cidx s.recordMatches⟩

theorem exec_mtest {s : State} (hdim : s.cfg.hasDim = true) : exec .mtest s = .next s.tested :=
  State.whenDim_present hdim ..

/-- A test does not change what the next test of the record finds. -/
theorem State.tested_recordMatches (s : State) : s.tested.recordMatches = s.recordMatches := rfl

theorem runCommands_cons_next {i : Instr} {is : List Instr} {s t : State} (h : exec i s = .next t) :
    runCommands (i :: is) s = runCommands is t := by
  rw [runCommands, h]

/-- `n` tests of one record write the response and the scan registers and nothing else (46_matcher.md R144). -/
theorem runCommands_replicate_mtest {s : State} (hdim : s.cfg.hasDim = true) (n : Nat) :
    ∃ r l, runCommands (List.replicate n .mtest) s = some
      { s with
        rsp := r, mlast := l, cidx := countUp^[n] s.cidx
        mcnt := if s.recordMatches then countUp^[n] s.mcnt else s.mcnt } := by
  induction n generalizing s with
  | zero => exact ⟨s.rsp, s.mlast, by simp [runCommands]⟩
  | succ n ih =>
    obtain ⟨r, l, hrun⟩ := ih (s := s.tested) hdim
    refine ⟨r, l, ?_⟩
    rw [List.replicate_succ, runCommands_cons_next (exec_mtest hdim), hrun, State.tested_recordMatches]
    cases hrec : s.recordMatches <;> simp [State.tested, State.answer, State.recordTest, hrec]

end Sys2Proof.Machine

namespace Sys2Proof.Proofs

open Sys2Proof.Machine

/-- Settles O57: the run in closed form, and how often a counter that stops at 0xFFFF counts. -/
theorem testsAreCountedUpToTheLimit : Obligations.TestsAreCountedUpToTheLimit := by
  intro s n hdim
  obtain ⟨r, l, hrun⟩ := runCommands_replicate_mtest hdim n
  refine ⟨_, hrun, countUp_iterate_toNat s.cidx n, ?_, rfl, rfl, rfl, rfl, rfl, rfl, rfl, rfl,
    ⟨rfl, rfl, rfl, rfl, rfl⟩⟩
  rw [← countUp_iterate_toNat, ← apply_ite BitVec.toNat]

end Sys2Proof.Proofs
end

section
/-! PROOFS. The report buffer between reports: a word taken from the port runs as its instruction (20_memory.md R44),
and only `CLR` and `PUSH` end a decoded report (20_memory.md R43, R45). -/

namespace Sys2Proof.Machine

/-- A step with a word that decodes is that instruction on the state that has taken the word. -/
theorem step_eq_exec {s : State} {w : CmdWord} {rest : List CmdWord} {i : Instr} (hcmds : s.cmds = w :: rest)
    (hdec : decode w = .ok i) : step s = exec i (s.accept rest) := by
  simp only [step, hcmds, hdec]

/-! ## A decoded report stands -/

theorem State.SameRdx.trans {s t u : State} (hst : s.SameRdx t) (htu : t.SameRdx u) : s.SameRdx u :=
  ⟨hst.rb.trans htu.rb, hst.len.trans htu.len, hst.res.trans htu.res, hst.trn.trans htu.trn, hst.errb.trans htu.errb⟩

/-- A `DEC` of a report that is decoded already finds it full and its discriminator known (40_control_ops.md R72). -/
theorem State.Sound.decOutcome_res {s : State} (hs : s.Sound) (hok : s.res = .ok) : (decOutcome s).res = .ok := by
  have hfull : s.full = true := State.full_iff.mpr (hs.ok_full hok).ge
  unfold decOutcome
  rw [if_pos hfull]
  cases htrn : s.trn with
  | usb => rw [if_pos (hs.ok_usb hok htrn)]
  | bluetooth =>
    have hbt := hs.ok_bluetooth hok htrn
    rw [if_neg (hbt ▸ s.cfg.discBt_ne_discUsb), if_pos hbt]

/-- Only `CLR` and `PUSH` end a decoded report (20_memory.md R43). -/
theorem Updates.res_ok {i : Instr} {s u : State} (h : Updates i s u) (hs : s.Sound) (hok : s.res = .ok)
    (hclr : i ≠ .clr) (hpush : ∀ b, i ≠ .push b) : u.res = .ok := by
  cases h with
  | rewind => exact absurd rfl hclr
  | storeByte b => exact absurd rfl (hpush b)
  | recordDec => exact hs.decOutcome_res hok
  | _ => simpa using hok

/-- A decoded report stands in full because its bytes do: they determine the rest of the RDX state. -/
theorem Updates.sameRdx {i : Instr} {s u : State} (h : Updates i s u) (hs : s.Sound) (hok : s.res = .ok)
    (hclr : i ≠ .clr) (hpush : ∀ b, i ≠ .push b) : u.SameRdx s :=
  (h.sound hs).sameRdx_of_sameBytes hs (h.res_ok hs hok hclr hpush) hok h.cfg_eq
    fun a _ => congrArg (Memory.read · a) (h.rb_eq hpush)

/-- A run without `CLR` and `PUSH` from a sound decoded state comes to its end with the report as it was. -/
theorem runCommands_sameRdx {is : List Instr} {s : State} (hs : s.Sound) (hok : s.res = .ok)
    (his : ∀ i ∈ is, i ≠ .clr ∧ ∀ b, i ≠ .push b) : ∃ t, runCommands is s = some t ∧ t.SameRdx s := by
  induction is generalizing s with
  | nil => exact ⟨s, rfl, State.SameRdx.refl s⟩
  | cons i is ih =>
    obtain ⟨⟨hclr, hpush⟩, hrest⟩ := List.forall_mem_cons.mp his
    obtain ⟨u, r, hu, hexec⟩ := exec_updates i s
    have hsame : (u.answer r).SameRdx s := { hu.sameRdx hs hok hclr hpush with }
    obtain ⟨t, hrun, ht⟩ := ih ((hu.sound hs).answer r) (hsame.res.trans hok) hrest
    exact ⟨t, (runCommands_cons_next hexec).trans hrun, ht.trans hsame⟩

end Sys2Proof.Machine

namespace Sys2Proof.Proofs

open Sys2Proof.Machine

/-- Settles O6: the taken word is the oldest one, and `accept` takes it off the queue. -/
theorem stepRunsTheDecodedInstruction : Obligations.StepRunsTheDecodedInstruction :=
  fun _ _ _ _ hcmds hdec => step_eq_exec hcmds hdec

/-- Settles O47: by induction on the commands, each of which keeps the state sound and the RDX state as it is. -/
theorem bufferStandsUntilNextReport : Obligations.BufferStandsUntilNextReport :=
  fun _ _ hs hok his => runCommands_sameRdx hs hok his

/-- Settles O59: the first cell of a canonical list is the lowest index that does not read as unlisted, so two such
lists agree cell by cell. -/
theorem canonicalRegistersAreEqualWhenTheyReadEqual : Obligations.CanonicalRegistersAreEqualWhenTheyReadEqual :=
  fun _ _ _ h₁ h₂ hread => Memory.eq_of_wf_of_read_eq h₁ h₂ hread

end Sys2Proof.Proofs
end

section
/-! PROOFS. The instruction set and the unreserved words are one and the same (30_encoding.md R59 to R63): every
instruction decodes from its own word, and the lists of R63 are the words that are left over. -/

namespace Sys2Proof

/-! ## Every instruction decodes from its word -/

/-- Every accessor has a row in the table of select codes (30_encoding.md R62). -/
theorem exists_select_of_isRd {i : Instr} (h : i.isRd = true) :
    ∃ f, encode i = cmdWord 0x03#8 f ∧ decodeSelect f = .ok i := by
  cases i with
  | clr | push | dec | stat | mrst | mcls0 | mcls1 | mcls2 | mven | mpro | mcmb | mtest | mstat => cases h
  | _ => exact ⟨_, rfl, rfl⟩

theorem decode_cmdWord_select (f : Byte) : decode (cmdWord 0x03#8 f) = decodeSelect f := by simp [decode]

/-- The word of an instruction decodes to that instruction: an accessor through its select code, a command without an
operand by its one word, and a command with an operand for whatever byte it holds. -/
theorem decode_encode (i : Instr) : decode (encode i) = .ok i := by
  cases hdim : i.isDim with
  | false =>
    rcases Machine.isRd_or_control_of_not_isDim hdim with hrd | rfl | ⟨b, rfl⟩ | rfl | rfl
    · obtain ⟨f, henc, hsel⟩ := exists_select_of_isRd hrd
      rw [henc, decode_cmdWord_select, hsel]
    · rfl
    · simp only [encode, decode, cmdOp_cmdWord, cmdArg_cmdWord]
    · rfl
    · rfl
  | true =>
    cases i with
    | mven | mpro | mcmb => simp only [encode, decode, cmdOp_cmdWord, cmdArg_cmdWord]
    | mrst | mcls0 | mcls1 | mcls2 | mtest | mstat => rfl
    | _ => cases hdim

/-! ## Which words decode -/

/-- A select code that R63 lists: in a gap of the table of R62, or above it. -/
def reservedSelect (f : Byte) : Prop :=
  f.toNat ∈ [0x0A, 0x0B, 0x1B, 0x1C, 0x1D, 0x1E, 0x1F, 0x27, 0x35, 0x36, 0x37] ∨ 0x7F ≤ f.toNat

/-- A word on one of the lists of R63 that do not ask whether the DIM unit is there. -/
def reservedAlways (w : CmdWord) : Prop :=
  (0x05 ≤ (cmdOp w).toNat ∧ (cmdOp w).toNat ≤ 0x0F) ∨
  0x17 ≤ (cmdOp w).toNat ∨
  ((cmdOp w).toNat ∈ [0x00, 0x02, 0x04, 0x10, 0x15, 0x16] ∧ cmdArg w ≠ 0x00#8) ∨
  ((cmdOp w).toNat = 0x11 ∧ 3 ≤ (cmdArg w).toNat) ∨
  ((cmdOp w).toNat = 0x03 ∧ reservedSelect (cmdArg w))

/-- The opcode byte is one of the DIM unit's (30_encoding.md R60). -/
def dimOpcode (w : CmdWord) : Prop := 0x10 ≤ (cmdOp w).toNat ∧ (cmdOp w).toNat ≤ 0x16

/-- The lists of R63, with the one that depends on the configuration apart. -/
theorem Machine.reservedWord_iff (c : Config) (w : CmdWord) :
    Machine.reservedWord c w ↔ reservedAlways w ∨ (dimOpcode w ∧ c.hasDim = false) := by
  constructor
  · rintro (h | h | ⟨hlo, hhi, hdim⟩ | h)
    · exact .inl (.inl h)
    · exact .inl (.inr (.inl h))
    · exact .inr ⟨⟨hlo, hhi⟩, hdim⟩
    · exact .inl (.inr (.inr h))
  · rintro ((h | h | h) | ⟨⟨hlo, hhi⟩, hdim⟩)
    · exact .inl h
    · exact .inr (.inl h)
    · exact .inr (.inr (.inr h))
    · exact .inr (.inr (.inl ⟨hlo, hhi, hdim⟩))

@[simp] theorem isOk_ok (i : Instr) : (Except.ok i : Except Reserved Instr).isOk = true := rfl

@[simp] theorem isOk_error (e : Reserved) : (Except.error e : Except Reserved Instr).isOk = false := rfl

theorem decodeSelect_isOk_iff (f : Byte) : (decodeSelect f).isOk = true ↔ ¬ reservedSelect f := by
  unfold reservedSelect; revert f; decide

theorem decodeClass_isOk_iff (k : Byte) : (decodeClass k).isOk = true ↔ ¬ 3 ≤ k.toNat := by
  revert k; decide

theorem decodeNoOperand_isOk_iff (arg : Byte) (i : Instr) :
    (decodeNoOperand arg i).isOk = true ↔ arg = 0x00#8 := by
  unfold decodeNoOperand
  split
  next harg => simp [harg]
  next harg => simp [harg]

/-- The decoder accepts a word unless R63 lists it whatever the configuration: the opcode byte says which constraint the
operand byte has to meet. -/
theorem decode_isOk_iff (w : CmdWord) : (decode w).isOk = true ↔ ¬ reservedAlways w := by
  unfold decode reservedAlways
  split
  case h_13 =>
    have hlisted : (0x05 ≤ (cmdOp w).toNat ∧ (cmdOp w).toNat ≤ 0x0F) ∨ 0x17 ≤ (cmdOp w).toNat := by
      simp only [imp_false] at *
      bv_omega
    simp [or_assoc.mp (.inl hlisted)]
  all_goals
    rename_i hop
    simp [hop, decodeNoOperand_isOk_iff, decodeSelect_isOk_iff, decodeClass_isOk_iff]

/-- The DIM unit's instructions are those whose opcode byte is in the unit's range. -/
theorem isDim_iff_dimOpcode (i : Instr) : i.isDim = true ↔ dimOpcode (encode i) := by
  unfold dimOpcode
  cases hdim : i.isDim with
  | false =>
    rcases Machine.isRd_or_control_of_not_isDim hdim with hrd | rfl | ⟨b, rfl⟩ | rfl | rfl
    · obtain ⟨f, henc, -⟩ := exists_select_of_isRd hrd
      simp [henc]
    all_goals simp [encode]
  | true =>
    cases i with
    | mrst | mcls0 | mcls1 | mcls2 | mven | mpro | mcmb | mtest | mstat => simp [encode]
    | _ => cases hdim

theorem wellFormed_iff (c : Config) (i : Instr) :
    i.wellFormed c = true ↔ ¬ (i.isDim = true ∧ c.hasDim = false) := by
  simp [Instr.wellFormed, imp_iff_not_or]

end Sys2Proof

namespace Sys2Proof.Proofs

open Sys2Proof.Machine

/-- Settles O2: an accessor is read back through its select code, any other command through its opcode byte. -/
theorem decodeReadsBackEveryEncoding : Obligations.DecodeReadsBackEveryEncoding := decode_encode

/-- Settles O3: the opcode byte and then the operand byte of the word are read off the branch of the decoder. -/
theorem eachDecodedWordIsItsEncoding : Obligations.EachDecodedWordIsItsEncoding := fun _ _ h => encode_of_decode h

/-- Settles O5: the decoder accepts the words that are on no list of R63 but the unit's, and the unit's list is the
words of the instructions that lack their unit. -/
theorem unreservedWordIsAnInstruction : Obligations.UnreservedWordIsAnInstruction := by
  intro c w
  have hok := decode_isOk_iff w
  rw [reservedWord_iff]
  cases hdec : decode w with
  | error e =>
    have hres : reservedAlways w := by simpa [hdec] using hok
    simp [hres]
  | ok i =>
    have hres : ¬ reservedAlways w := by simpa [hdec] using hok
    have hdim : i.isDim = true ↔ dimOpcode w := by rw [isDim_iff_dimOpcode, encode_of_decode hdec]
    simp [hres, wellFormed_iff, hdim]

/-- Settles O1: each of the fourteen words is the encoding of its instruction. -/
theorem decodesWordsWrittenFromTheOpcodeMap : Obligations.DecodesWordsWrittenFromTheOpcodeMap :=
  ⟨decode_encode .clr, decode_encode (.push 0x31#8), decode_encode .dec, decode_encode .stat, decode_encode .rdSeq,
    decode_encode .rdDpad, decode_encode .rdAz, decode_encode .rdT0y, decode_encode .rdChg, decode_encode .rdCmac7,
    decode_encode .rdRaw62, decode_encode .mcls2, decode_encode (.mcmb 0x30#8), decode_encode .mtest⟩

end Sys2Proof.Proofs
end

section
/-! PROOFS. The control commands, one by one (40_control_ops.md R70 to R76): the state each leaves, the phases they move
between, and the words of theirs that R63 reserves. -/

namespace Sys2Proof

/-- Bits put side by side are a number of two digits. -/
theorem toNat_append_eq_add {m n : Nat} (x : BitVec m) (y : BitVec n) :
    (x ++ y).toNat = x.toNat * 2 ^ n + y.toNat := by
  rw [BitVec.toNat_append, ← Nat.shiftLeft_add_eq_or_of_lt y.isLt, Nat.shiftLeft_eq]

theorem toNat_cmdWord (op arg : Byte) : (cmdWord op arg).toNat = op.toNat * 256 + arg.toNat :=
  toNat_append_eq_add op arg

/-- The commands that take no operand have one word each (30_encoding.md R60, R63). -/
theorem reservedAlways_of_operand {op arg : Byte} (hop : op.toNat ∈ [0x00, 0x02, 0x04, 0x10, 0x15, 0x16])
    (harg : arg ≠ 0x00#8) : reservedAlways (cmdWord op arg) :=
  .inr (.inr (.inl (by simpa only [cmdOp_cmdWord, cmdArg_cmdWord] using ⟨hop, harg⟩)))

/-- Whichever discriminator belongs to which transport, the two are the bytes of 00_scope.md R7. -/
theorem Config.discriminator_iff (c : Config) (b : Byte) :
    b = c.discUsb ∨ b = c.discBt ↔ b = 0x01#8 ∨ b = 0x31#8 := by
  obtain ⟨-, -, -, hdisc⟩ := Params.layoutOK_clauses (Params.layoutOK_of_admitted c.isAdmitted)
  rcases (Params.discsOK_iff _).mp hdisc with ⟨hu, hb⟩ | ⟨hu, hb⟩
  · rw [hu, hb]
  · rw [hu, hb, or_comm]

end Sys2Proof

namespace Sys2Proof.Machine

/-! ## Steps -/

/-- A step with a word that R63 lists for every configuration answers `F_ILLEGAL_CMD` (60_exceptions.md R157). -/
theorem step_of_reservedAlways {s : State} {w : CmdWord} {rest : List CmdWord} (hcmds : s.cmds = w :: rest)
    (hres : reservedAlways w) : step s = .next ((s.accept rest).answer ⟨.fIllegalCmd, w.setWidth 32⟩) := by
  cases hdec : decode w with
  | ok i => exact absurd hres ((decode_isOk_iff w).mp (by rw [hdec, isOk_ok]))
  | error e => simp only [step, hcmds, hdec, State.illegalCommand, State.raise]

/-- A step that takes an instruction's word ends where the instruction does. -/
theorem step_encode_next {s t u : State} {i : Instr} {rest : List CmdWord} (hcmds : s.cmds = encode i :: rest)
    (hstep : step s = .next t) (hexec : exec i (s.accept rest) = .next u) : t = u := by
  rw [step_eq_exec hcmds (decode_encode i), hexec] at hstep
  cases hstep
  rfl

/-! ## The state each control command leaves -/

/-- The state a `CLR` leaves (40_control_ops.md R70). -/
def State.afterClr (s : State) : State := s.rewind.clearResult.answer ⟨.ok, 0#32⟩

/-- The state a `PUSH` leaves (40_control_ops.md R71). -/
def State.afterPush (s : State) (b : Byte) : State := (s.storeByte b).clearResult.answer ⟨.ok, 0#32⟩

/-- The state a `DEC` leaves (40_control_ops.md R72). -/
def State.afterDec (s : State) : State := s.recordDec.answer (decOutcome s).reply

theorem exec_clr_next (s : State) : exec .clr s = .next s.afterClr := rfl

theorem exec_push_next (b : Byte) (s : State) : exec (.push b) s = .next (s.afterPush b) := rfl

theorem exec_dec_next (s : State) : exec .dec s = .next s.afterDec := exec_dec s

theorem exec_stat_next (s : State) : exec .stat s = .next (s.answer ⟨.ok, s.statusWord⟩) := rfl

@[simp] theorem State.afterPush_rb (s : State) (b : Byte) : (s.afterPush b).rb = (s.storeByte b).rb := rfl
@[simp] theorem State.afterPush_len (s : State) (b : Byte) : (s.afterPush b).len = (s.storeByte b).len := rfl
@[simp] theorem State.afterDec_rb (s : State) : s.afterDec.rb = s.rb := rfl
@[simp] theorem State.afterDec_len (s : State) : s.afterDec.len = s.len := rfl
@[simp] theorem State.afterDec_res (s : State) : s.afterDec.res = (decOutcome s).res := rfl
@[simp] theorem State.afterDec_trn (s : State) : s.afterDec.trn = (decOutcome s).trn := rfl
@[simp] theorem State.afterDec_errb (s : State) : s.afterDec.errb = (decOutcome s).errb := rfl
@[simp] theorem State.afterDec_rsp (s : State) : s.afterDec.rsp = some (decOutcome s).reply := rfl

/-- A `PUSH` writes the buffer, `LEN`, the result registers and the response, and nothing else. -/
theorem State.afterPush_eta (s : State) (b : Byte) :
    s.afterPush b = { s with
      rb := (s.storeByte b).rb, len := (s.storeByte b).len, res := .none, trn := .usb, errb := 0x00#8,
      rsp := some ⟨.ok, 0#32⟩ } :=
  congrArg (fun u => State.answer (State.clearResult u) ⟨.ok, 0#32⟩) (s.storeByte_eta b)

/-- A `DEC` does not change what the next `DEC` finds (40_control_ops.md R76). -/
theorem decOutcome_afterDec (s : State) : decOutcome s.afterDec = decOutcome s := rfl

theorem State.afterDec_afterDec (s : State) : s.afterDec.afterDec = s.afterDec := by
  rw [State.afterDec, State.recordDec, decOutcome_afterDec]
  rfl

/-! ## The outcomes of a `DEC` (40_control_ops.md R72) -/

theorem decOutcome_truncated {s : State} (hlen : s.len.toNat < reportLen) :
    decOutcome s = ⟨.truncated, .usb, 0x00#8, ⟨.eTruncated, zext32 s.len⟩⟩ := by
  simp [decOutcome, State.not_full_iff.mpr hlen]

theorem decOutcome_usb {s : State} (hlen : reportLen ≤ s.len.toNat) (hdisc : s.rb.read 0 = s.cfg.discUsb) :
    decOutcome s = ⟨.ok, .usb, 0x00#8, ⟨.ok, 0#32⟩⟩ := by
  simp [decOutcome, State.full_iff.mpr hlen, hdisc]

theorem decOutcome_bluetooth {s : State} (hlen : reportLen ≤ s.len.toNat) (hdisc : s.rb.read 0 = s.cfg.discBt) :
    decOutcome s = ⟨.ok, .bluetooth, 0x00#8, ⟨.ok, 1#32⟩⟩ := by
  simp [decOutcome, State.full_iff.mpr hlen, hdisc, s.cfg.discBt_ne_discUsb]

theorem decOutcome_unknown {s : State} (hlen : reportLen ≤ s.len.toNat) (h01 : s.rb.read 0 ≠ 0x01#8)
    (h31 : s.rb.read 0 ≠ 0x31#8) :
    decOutcome s = ⟨.unknownTransport, .usb, s.rb.read 0, ⟨.eUnknownTransport, zext32 (s.rb.read 0)⟩⟩ := by
  obtain ⟨husb, hbt⟩ := not_or.mp (mt (s.cfg.discriminator_iff _).mp (not_or.mpr ⟨h01, h31⟩))
  simp [decOutcome, State.full_iff.mpr hlen, husb, hbt]

theorem decOutcome_res_ok {s : State} (hlen : reportLen ≤ s.len.toNat)
    (hdisc : s.rb.read 0 = 0x01#8 ∨ s.rb.read 0 = 0x31#8) : (decOutcome s).res = .ok := by
  rcases (s.cfg.discriminator_iff _).mpr hdisc with husb | hbt
  · rw [decOutcome_usb hlen husb]
  · rw [decOutcome_bluetooth hlen hbt]

/-! ## The phase (10_state.md R22) -/

theorem State.afterClr_phase (s : State) : s.afterClr.phase = .empty := rfl

/-- After a `PUSH` the buffer holds a byte: the one stored, or those that filled it. -/
theorem State.afterPush_phase (s : State) (b : Byte) : (s.afterPush b).phase = .loading := by
  have hpos : 0 < (s.storeByte b).len.toNat := by
    cases hfull : s.full with
    | true => rw [State.storeByte_full hfull]; exact lt_of_lt_of_le (by decide) (State.full_iff.mp hfull)
    | false => rw [(State.storeByte_room (State.not_full_iff.mp hfull) b).1]; exact Nat.succ_pos _
  have hlen : (s.afterPush b).len ≠ 0#7 := fun h => by simp [← State.afterPush_len, h] at hpos
  exact if_neg hlen

theorem State.phase_decoded {s : State} (h : s.res = .ok) : s.phase = .decoded := by simp [State.phase, h]

theorem State.phase_truncated {s : State} (h : s.res = .truncated) : s.phase = .failed := by simp [State.phase, h]

theorem State.phase_unknownTransport {s : State} (h : s.res = .unknownTransport) : s.phase = .failed := by
  simp [State.phase, h]

theorem State.phase_congr {s t : State} (hres : s.res = t.res) (hlen : s.len = t.len) : s.phase = t.phase := by
  simp only [State.phase, hres, hlen]

/-- Only `CLR`, `PUSH` and `DEC` write `RES` (10_state.md R19). -/
theorem Updates.res_eq {i : Instr} {s u : State} (h : Updates i s u) (hclr : i ≠ .clr) (hpush : ∀ b, i ≠ .push b)
    (hdec : i ≠ .dec) : u.res = s.res := by
  cases h with
  | rewind => exact absurd rfl hclr
  | storeByte b => exact absurd rfl (hpush b)
  | recordDec => exact absurd rfl hdec
  | _ => simp

/-- Only the three commands of R75 move the phase. -/
theorem Updates.phase_eq {i : Instr} {s u : State} (h : Updates i s u) (hclr : i ≠ .clr) (hpush : ∀ b, i ≠ .push b)
    (hdec : i ≠ .dec) : u.phase = s.phase :=
  State.phase_congr (h.res_eq hclr hpush hdec) (h.len_eq hpush hclr)

/-! ## The status word (10_state.md R23) -/

theorem State.toNat_statusWord (s : State) : s.statusWord.toNat =
    s.errb.toNat * 2 ^ 16 + s.trn.bit.toNat * 2 ^ 10 + s.res.bits.toNat * 2 ^ 8 + s.len.toNat := by
  unfold State.statusWord
  iterate 6 rw [toNat_append_eq_add]
  simp only [BitVec.toNat_ofNat]
  omega

/-- The fields of the status word stand in their places, with zeros between them. -/
theorem State.statusWord_fields (s : State) :
    s.statusWord.extractLsb' 0 7 = s.len ∧ s.statusWord.extractLsb' 7 1 = 0#1 ∧
    s.statusWord.extractLsb' 8 2 = s.res.bits ∧ s.statusWord.extractLsb' 10 1 = s.trn.bit ∧
    s.statusWord.extractLsb' 11 5 = 0#5 ∧ s.statusWord.extractLsb' 16 8 = s.errb ∧
    s.statusWord.extractLsb' 24 8 = 0#8 := by
  have hfield {start n : Nat} {v : BitVec n} (h : s.statusWord.toNat / 2 ^ start % 2 ^ n = v.toNat) :
      s.statusWord.extractLsb' start n = v :=
    BitVec.eq_of_toNat_eq (by rwa [BitVec.extractLsb'_toNat, Nat.shiftRight_eq_div_pow])
  have hgap {start n : Nat} (h : s.statusWord.toNat / 2 ^ start % 2 ^ n = 0) :
      s.statusWord.extractLsb' start n = 0#n := hfield (h.trans BitVec.toNat_zero.symm)
  have hword := s.toNat_statusWord
  have hlen := s.len.isLt
  have hres := s.res.bits.isLt
  have htrn := s.trn.bit.isLt
  have herrb := s.errb.isLt
  exact ⟨hfield (by omega), hgap (by omega), hfield (by omega), hfield (by omega), hgap (by omega),
    hfield (by omega), hgap (by omega)⟩

end Sys2Proof.Machine

namespace Sys2Proof.Proofs

open Sys2Proof.Machine

/-- Settles O38: the phase each of the three commands leaves, and that no other update moves it. -/
theorem phaseMovesOnlyAsListed : Obligations.PhaseMovesOnlyAsListed := by
  intro s t w rest hcmds hstep
  have hdec : w = encode .dec → t = (s.accept rest).afterDec := by
    rintro rfl
    exact step_encode_next hcmds hstep (exec_dec_next _)
  refine ⟨?clr, ?push, ?truncated, ?decoded, ?unknown, ?other⟩
  case clr =>
    rintro rfl
    rw [step_encode_next hcmds hstep (exec_clr_next _)]
    exact State.afterClr_phase _
  case push =>
    rintro ⟨b, rfl⟩
    rw [step_encode_next hcmds hstep (exec_push_next b _)]
    exact State.afterPush_phase _ b
  case truncated =>
    intro hw hlen
    have hres : t.res = .truncated := by
      rw [hdec hw, State.afterDec_res, decOutcome_truncated (s := s.accept rest) hlen]
    exact ⟨State.phase_truncated hres, hres⟩
  case decoded =>
    intro hw hlen hdisc
    refine State.phase_decoded ?_
    rw [hdec hw, State.afterDec_res, decOutcome_res_ok (s := s.accept rest) hlen hdisc]
  case unknown =>
    intro hw hlen h01 h31
    have hres : t.res = .unknownTransport := by
      rw [hdec hw, State.afterDec_res, decOutcome_unknown (s := s.accept rest) hlen h01 h31]
    exact ⟨State.phase_unknownTransport hres, hres⟩
  case other =>
    intro hclr hpush hne
    rcases step_cases hstep with rfl | ⟨rest', r, rfl⟩ | ⟨w', rest', i, u, r, hcmds', hdecode, hu, rfl⟩
    · rfl
    · rfl
    · have hw : w = encode i := by
        rw [hcmds] at hcmds'
        cases hcmds'
        exact (encode_of_decode hdecode).symm
      exact hu.phase_eq (fun h => hclr (h ▸ hw)) (fun b h => hpush b (h ▸ hw)) (fun h => hne (h ▸ hw))

/-- Settles O10: `storeByte` says what happens to the buffer and to `LEN`. -/
theorem pushAppendsOneByte : Obligations.PushAppendsOneByte := by
  intro b
  refine ⟨?word, fun s => ⟨_, _, (exec_push_next b s).trans (congrArg _ (s.afterPush_eta b)), ?room, ?full⟩⟩
  case word =>
    refine BitVec.eq_of_toNat_eq ?_
    have hb := b.isLt
    rw [encode, toNat_cmdWord, BitVec.toNat_add, BitVec.toNat_setWidth]
    simp only [BitVec.toNat_ofNat]
    omega
  case room => exact fun hlen => State.storeByte_room hlen b
  case full =>
    intro hlen
    rw [State.storeByte_full (State.full_iff.mpr (Nat.not_lt.mp hlen))]
    exact ⟨rfl, rfl⟩

/-- Settles O12: a `DEC` writes nothing that a `DEC` reads. -/
theorem decIsIdempotent : Obligations.DecIsIdempotent := by
  intro s t he
  rw [exec_dec_next] at he
  cases he
  rw [exec_dec_next, State.afterDec_afterDec]

/-- Settles O13: the layout of the status word, and that its command takes no operand. -/
theorem statReturnsTheStatusWord : Obligations.StatReturnsTheStatusWord :=
  ⟨rfl, fun s => ⟨s.statusWord, exec_stat_next s, s.statusWord_fields⟩,
    fun _ _ _ harg hcmds => step_of_reservedAlways hcmds (reservedAlways_of_operand (by decide) harg)⟩

/-- Settles O16: every accessor but `DPAD` is a readout, which answers `OK` once a report is decoded. -/
theorem onlyDpadCanFailAfterDecode : Obligations.OnlyDpadCanFailAfterDecode := by
  intro i s hrd hdpad hok
  obtain ⟨v, hexec⟩ := exec_readout i s hrd hdpad
  exact ⟨v, hexec.trans (State.readout_ok hok v)⟩

/-- Settles O9: the state a `CLR` leaves, and that its command takes no operand. -/
theorem clrEmptiesTheReport : Obligations.ClrEmptiesTheReport :=
  ⟨rfl, exec_clr_next,
    fun _ _ _ harg hcmds => step_of_reservedAlways hcmds (reservedAlways_of_operand (by decide) harg)⟩

end Sys2Proof.Proofs
end

section
/-! PROOFS. A whole `DECODE` (30_encoding.md R69): the state its bytes leave, from any state, and what its `DEC` finds. -/

namespace Sys2Proof.Machine

theorem runCommands_append (is js : List Instr) (s : State) :
    runCommands (is ++ js) s = (runCommands is s).bind (runCommands js) := by
  induction is generalizing s with
  | nil => rfl
  | cons i is ih =>
    obtain ⟨u, r, -, hexec⟩ := exec_updates i s
    rw [List.cons_append, runCommands_cons_next hexec, runCommands_cons_next hexec, ih]

/-- The state after `LOAD` (30_encoding.md R69). -/
def State.loaded (s : State) (bs : List Byte) : State := bs.foldl State.afterPush s.afterClr

theorem State.loaded_append (s : State) (bs more : List Byte) :
    s.loaded (bs ++ more) = more.foldl State.afterPush (s.loaded bs) := List.foldl_append

theorem State.loaded_concat (s : State) (bs : List Byte) (b : Byte) :
    s.loaded (bs ++ [b]) = (s.loaded bs).afterPush b := s.loaded_append bs [b]

theorem runCommands_push (bs : List Byte) (s : State) :
    runCommands (bs.map .push) s = some (bs.foldl State.afterPush s) := by
  induction bs generalizing s with
  | nil => rfl
  | cons b bs ih => rw [List.map_cons, runCommands_cons_next (exec_push_next b s), ih, List.foldl_cons]

theorem runCommands_loadProgram (bs : List Byte) (s : State) : runCommands (loadProgram bs) s = some (s.loaded bs) := by
  rw [loadProgram, runCommands_cons_next (exec_clr_next s), runCommands_push, State.loaded]

theorem runCommands_decodeProgram (bs : List Byte) (s : State) :
    runCommands (decodeProgram bs) s = some (s.loaded bs).afterDec := by
  rw [decodeProgram, runCommands_append, runCommands_loadProgram, Option.bind_some,
    runCommands_cons_next (exec_dec_next _), runCommands]

/-! ## What a `LOAD` leaves -/

theorem State.loaded_cfg (s : State) (bs : List Byte) : (s.loaded bs).cfg = s.cfg := by
  induction bs using List.reverseRecOn with
  | nil => rfl
  | append_singleton bs b ih => rw [State.loaded_concat, State.afterPush_eta, ih]

/-- A `LOAD` counts its bytes up to 64 (10_state.md R17). -/
theorem State.loaded_len (s : State) (bs : List Byte) : (s.loaded bs).len.toNat = min bs.length reportLen := by
  induction bs using List.reverseRecOn with
  | nil => rfl
  | append_singleton bs b ih =>
    rw [State.loaded_concat, State.afterPush_len, List.length_append, List.length_singleton]
    cases hfull : (s.loaded bs).full with
    | true =>
      have hge := State.full_iff.mp hfull
      rw [State.storeByte_full hfull]
      omega
    | false =>
      have hlt := State.not_full_iff.mp hfull
      rw [(State.storeByte_room hlt b).1]
      omega

/-- A `LOAD` stores its first 64 bytes in order (40_control_ops.md R71). -/
theorem State.loaded_read (s : State) {bs : List Byte} {k : Nat} {b : Byte} (hk : k < reportLen)
    (hb : bs[k]? = some b) : (s.loaded bs).rb.read k = b := by
  induction bs using List.reverseRecOn with
  | nil => simp at hb
  | append_singleton bs c ih =>
    have hlen := s.loaded_len bs
    rw [State.loaded_concat, State.afterPush_rb]
    cases hfull : (s.loaded bs).full with
    | true =>
      have hge := State.full_iff.mp hfull
      rw [State.storeByte_full hfull]
      exact ih (by rwa [List.getElem?_append_left (by omega)] at hb)
    | false =>
      have hlt := State.not_full_iff.mp hfull
      have hlen' : (s.loaded bs).len.toNat = bs.length := by omega
      rw [(State.storeByte_room hlt c).2, hlen']
      split
      next heq => simpa [heq] using hb
      next hne =>
        have hlt : k < bs.length := by
          have := (List.getElem?_eq_some_iff.mp hb).1
          simp at this
          omega
        exact ih (by rwa [List.getElem?_append_left hlt] at hb)

/-- A `PUSH` on a full buffer drops its byte: it leaves what a `PUSH` leaves besides the byte. -/
theorem State.afterPush_full {s : State} (h : s.full = true) (b : Byte) :
    s.afterPush b = s.clearResult.answer ⟨.ok, 0#32⟩ := by
  rw [State.afterPush, State.storeByte_full h]

/-- A `LOAD` ends with no result and with the response of its last command. -/
theorem State.loaded_clearResult_answer (s : State) (bs : List Byte) :
    (s.loaded bs).clearResult.answer ⟨.ok, 0#32⟩ = s.loaded bs := by
  induction bs using List.reverseRecOn with
  | nil => rfl
  | append_singleton bs b _ => rw [State.loaded_concat]; rfl

/-- A `LOAD` of 64 bytes takes no more. -/
theorem State.loaded_append_of_full (s : State) {bs : List Byte} (hbs : reportLen ≤ bs.length) (more : List Byte) :
    s.loaded (bs ++ more) = s.loaded bs := by
  have hfull : (s.loaded bs).full = true := by
    rw [State.full_iff, State.loaded_len]
    exact le_min hbs le_rfl
  rw [State.loaded_append]
  exact List.foldl_fixed' (fun b => (State.afterPush_full hfull b).trans (s.loaded_clearResult_answer bs)) more

end Sys2Proof.Machine

namespace Sys2Proof.Proofs

open Sys2Proof.Machine

/-- Settles O45: the bytes and the length that the `LOAD` leaves decide what its `DEC` finds. -/
theorem decodeOfBytes : Obligations.DecodeOfBytes := by
  intro s bs
  have hcfg := s.loaded_cfg bs
  have hlen := s.loaded_len bs
  have hfull (h : 64 ≤ bs.length) : reportLen ≤ (s.loaded bs).len.toNat := hlen ▸ le_min h le_rfl
  have hdisc {d : Byte} (hd : bs[0]? = some d) : (s.loaded bs).rb.read 0 = d := s.loaded_read (by decide) hd
  refine ⟨_, runCommands_decodeProgram bs s, hlen, fun k hk b hb => s.loaded_read hk hb, ?truncated, ?usb,
    ?bluetooth, ?unknown⟩
  case truncated =>
    intro h
    have hlen : (s.loaded bs).len.toNat = bs.length := hlen.trans (Nat.min_eq_left h.le)
    have hword : zext32 (s.loaded bs).len = BitVec.ofNat 32 bs.length := by
      rw [zext32, ← hlen, BitVec.ofNat_toNat]
    rw [State.afterDec_res, State.afterDec_rsp, decOutcome_truncated (hlen.trans_lt h), hword]
    exact ⟨rfl, rfl⟩
  case usb =>
    intro h hd
    rw [State.afterDec_res, State.afterDec_trn, State.afterDec_rsp,
      decOutcome_usb (hfull h) ((hdisc hd).trans (by rw [hcfg]))]
    exact ⟨rfl, rfl, rfl⟩
  case bluetooth =>
    intro h hd
    rw [State.afterDec_res, State.afterDec_trn, State.afterDec_rsp,
      decOutcome_bluetooth (hfull h) ((hdisc hd).trans (by rw [hcfg]))]
    exact ⟨rfl, rfl, rfl⟩
  case unknown =>
    intro d h hd h01 h31
    have hread := hdisc hd
    rw [State.afterDec_res, State.afterDec_errb, State.afterDec_rsp,
      decOutcome_unknown (hfull h) (hread ▸ h01) (hread ▸ h31), hread]
    exact ⟨rfl, rfl, rfl⟩

/-- Settles O46: a full buffer takes no more bytes, so the `DEC` starts from the same state. -/
theorem bytesPastTheSixtyFourthAreDropped : Obligations.BytesPastTheSixtyFourthAreDropped := by
  intro s bs more hbs
  rw [runCommands_decodeProgram, runCommands_decodeProgram, s.loaded_append_of_full hbs]

end Sys2Proof.Proofs
end

section
/-! PROOFS. A call reads nothing that stood in the report unit before it (40_control_ops.md R77): the bytes stored since
the last `CLR`, and the registers that speak of them, decide every response. -/

namespace Sys2Proof

/-- Every field of the report lies inside the payload (00_scope.md R6 to R8). -/
theorem Config.offsets_in_payload (c : Config) :
    c.btnB1Off + 3 ≤ payloadLen ∧ c.offGyro + 6 ≤ payloadLen ∧ c.offAccel + 6 ≤ payloadLen ∧
    c.offTs + 4 ≤ payloadLen ∧ c.offTouch + 8 ≤ payloadLen ∧ c.offBatt < payloadLen ∧ c.offPeriph < payloadLen := by
  have hlayout := Params.layoutOK_of_admitted c.isAdmitted
  obtain ⟨-, -, hbtn, -⟩ := Params.layoutOK_clauses hlayout
  have hbounds : ∀ f ∈ c.openFields, f.1 + f.2 ≤ 55 := fun f hf => (Params.openField_bounds hlayout hf).2
  simp only [Params.openFields, List.forall_mem_cons] at hbounds
  obtain ⟨hgyro, haccel, hts, htouch, hbatt, hperiph, -⟩ := hbounds
  simp only [payloadLen]
  omega

end Sys2Proof

namespace Sys2Proof.Machine

/-! ## What the accessors read (00_scope.md R11) -/

/-- Two states hold the same 64 bytes of a report, of the same transport, under the same parameters. -/
structure State.SameReport (s₁ s₂ : State) : Prop where
  cfg : s₁.cfg = s₂.cfg
  trn : s₁.trn = s₂.trn
  bytes : SameBytes s₁ s₂

/-- A function of the state that the parameters, the 64 stored bytes and the transport determine. -/
def ReadsReport {α : Type} (v : State → α) : Prop := ∀ s₁ s₂, s₁.SameReport s₂ → v s₁ = v s₂

theorem ReadsReport.map {α β : Type} {v : State → α} (hv : ReadsReport v) (g : α → β) :
    ReadsReport fun s => g (v s) :=
  fun s₁ s₂ h => congrArg g (hv s₁ s₂ h)

theorem State.SameReport.payload_eq {s₁ s₂ : State} (h : s₁.SameReport s₂) {k : Nat} (hk : k < payloadLen) :
    s₁.payload k = s₂.payload k :=
  h.bytes (k + 1) (Nat.succ_lt_succ hk)

theorem State.SameReport.le16_eq {s₁ s₂ : State} (h : s₁.SameReport s₂) {k : Nat} (hk : k + 2 ≤ payloadLen) :
    s₁.le16 k = s₂.le16 k := by
  simp only [State.le16, h.payload_eq (k := k) (by omega), h.payload_eq (k := k + 1) (by omega)]

theorem State.SameReport.le32_eq {s₁ s₂ : State} (h : s₁.SameReport s₂) {k : Nat} (hk : k + 4 ≤ payloadLen) :
    s₁.le32 k = s₂.le32 k := by
  simp only [State.le32, h.payload_eq (k := k) (by omega), h.payload_eq (k := k + 1) (by omega),
    h.payload_eq (k := k + 2) (by omega), h.payload_eq (k := k + 3) (by omega)]

theorem readsReport_trn : ReadsReport fun s => s.trn.bit := fun _ _ h =>
  congrArg Transport.bit h.trn

theorem readsReport_payload {k : Nat} (hk : k < payloadLen) : ReadsReport fun s => s.payload k :=
  fun _ _ h => h.payload_eq hk

theorem readsReport_regionByte {j : Nat} (hj : j ≤ 3) : ReadsReport fun s => s.regionByte j := fun s₁ s₂ h => by
  obtain ⟨hbtn, -⟩ := s₂.cfg.offsets_in_payload
  simp only [State.regionByte, h.cfg]
  exact h.payload_eq (by omega)

theorem readsReport_dpadNibble : ReadsReport State.dpadNibble :=
  (readsReport_regionByte (by decide)).map lowNibble

theorem readsReport_buttonFlag {j n : Nat} (hj : j ≤ 3) : ReadsReport fun s => s.buttonFlag j n :=
  (readsReport_regionByte hj).map (flagBit · n)

theorem readsReport_gyro {c : Nat} (hc : c < 3) : ReadsReport fun s => s.component s.cfg.offGyro c :=
  fun s₁ s₂ h => by
    obtain ⟨-, hgyro, -⟩ := s₂.cfg.offsets_in_payload
    simp only [State.component, h.cfg]
    exact h.le16_eq (by omega)

theorem readsReport_accel {c : Nat} (hc : c < 3) : ReadsReport fun s => s.component s.cfg.offAccel c :=
  fun s₁ s₂ h => by
    obtain ⟨-, -, haccel, -⟩ := s₂.cfg.offsets_in_payload
    simp only [State.component, h.cfg]
    exact h.le16_eq (by omega)

theorem readsReport_timestamp : ReadsReport fun s => s.le32 s.cfg.offTs := fun s₁ s₂ h => by
  obtain ⟨-, -, -, hts, -⟩ := s₂.cfg.offsets_in_payload
  simp only [h.cfg]
  exact h.le32_eq hts

theorem readsReport_touchByte {n j : Nat} (hn : n < 2) (hj : j < 4) : ReadsReport fun s => s.touchByte n j :=
  fun s₁ s₂ h => by
    obtain ⟨-, -, -, -, htouch, -⟩ := s₂.cfg.offsets_in_payload
    simp only [State.touchByte, h.cfg]
    exact h.payload_eq (by omega)

theorem readsReport_touchActive {n : Nat} (hn : n < 2) : ReadsReport fun s => s.touchActive n :=
  (readsReport_touchByte hn (by decide)).map (~~~ flagBit · 7)

theorem readsReport_touchCount {n : Nat} (hn : n < 2) : ReadsReport fun s => s.touchCount n :=
  (readsReport_touchByte hn (by decide)).map (BitVec.extractLsb' 0 7)

theorem readsReport_touchX {n : Nat} (hn : n < 2) : ReadsReport fun s => s.touchX n := fun s₁ s₂ h => by
  simp only [State.touchX, readsReport_touchByte hn (j := 1) (by decide) s₁ s₂ h,
    readsReport_touchByte hn (j := 2) (by decide) s₁ s₂ h]

theorem readsReport_touchY {n : Nat} (hn : n < 2) : ReadsReport fun s => s.touchY n := fun s₁ s₂ h => by
  simp only [State.touchY, readsReport_touchByte hn (j := 2) (by decide) s₁ s₂ h,
    readsReport_touchByte hn (j := 3) (by decide) s₁ s₂ h]

theorem readsReport_battery : ReadsReport State.battery := fun s₁ s₂ h => by
  obtain ⟨-, -, -, -, -, hbatt, -⟩ := s₂.cfg.offsets_in_payload
  simp only [State.battery, h.cfg]
  exact h.payload_eq hbatt

theorem readsReport_chargeCode : ReadsReport State.chargeCode := fun s₁ s₂ h => by
  simp only [State.chargeCode, h.cfg, readsReport_battery s₁ s₂ h]

theorem readsReport_capacity : ReadsReport State.capacity := fun s₁ s₂ h => by
  simp only [State.capacity, h.cfg, readsReport_battery s₁ s₂ h]

theorem readsReport_periph : ReadsReport fun s => s.payload s.cfg.offPeriph := fun s₁ s₂ h => by
  obtain ⟨-, -, -, -, -, -, hperiph⟩ := s₂.cfg.offsets_in_payload
  simp only [h.cfg]
  exact h.payload_eq hperiph

/-- Once a report is decoded, the accessor's response is read off that report. -/
def AnswersFromReport (i : Instr) : Prop :=
  ∃ v : State → Response, ReadsReport v ∧ ∀ s, exec i s = s.whenDecoded (.next (s.answer (v s)))

theorem answersFromReport_of_readout {i : Instr} {n : Nat} {field : State → BitVec n} (extend : BitVec n → RspData)
    (hfield : ReadsReport field) (hexec : ∀ s, exec i s = s.readout (extend (field s))) : AnswersFromReport i :=
  ⟨_, hfield.map fun value => Response.mk .ok (extend value), hexec⟩

/-- What `DPAD` answers for a nibble of a decoded report (42_buttons.md R90). -/
def dpadResponse (nibble : BitVec 4) : Response :=
  if nibble.toNat ≤ 8 then ⟨.ok, zext32 nibble⟩ else ⟨.fDpadInvariant, zext32 nibble⟩

theorem answersFromReport_rdDpad : AnswersFromReport .rdDpad := by
  refine ⟨_, readsReport_dpadNibble.map dpadResponse, fun s => ?_⟩
  rw [exec_rdDpad, dpadResponse]
  split_ifs <;> rfl

/-- Every accessor reads fields that lie inside the report (20_memory.md R42). -/
theorem answersFromReport_of_isRd {i : Instr} (h : i.isRd = true) : AnswersFromReport i := by
  cases i with
  | clr | push | dec | stat | mrst | mcls0 | mcls1 | mcls2 | mven | mpro | mcmb | mtest | mstat => cases h
  | rdTrn => exact answersFromReport_of_readout zext32 readsReport_trn fun _ => rfl
  | rdDpad => exact answersFromReport_rdDpad
  | rdDpadraw => exact answersFromReport_of_readout zext32 readsReport_dpadNibble fun _ => rfl
  | rdSquare | rdCross | rdCircle | rdTriangle | rdL1 | rdR1 | rdL2b | rdR2b | rdCreate | rdOptions | rdL3 | rdR3
  | rdHome | rdTpclick | rdMicbtn =>
    exact answersFromReport_of_readout zext32 (readsReport_buttonFlag (by decide)) fun _ => rfl
  | rdGx | rdGy | rdGz =>
    exact answersFromReport_of_readout sext32 (readsReport_gyro (by decide)) fun _ => rfl
  | rdAx | rdAy | rdAz =>
    exact answersFromReport_of_readout sext32 (readsReport_accel (by decide)) fun _ => rfl
  | rdTs => exact answersFromReport_of_readout zext32 readsReport_timestamp fun _ => rfl
  | rdT0act | rdT1act =>
    exact answersFromReport_of_readout zext32 (readsReport_touchActive (by decide)) fun _ => rfl
  | rdT0cnt | rdT1cnt =>
    exact answersFromReport_of_readout zext32 (readsReport_touchCount (by decide)) fun _ => rfl
  | rdT0x | rdT1x =>
    exact answersFromReport_of_readout zext32 (readsReport_touchX (by decide)) fun _ => rfl
  | rdT0y | rdT1y =>
    exact answersFromReport_of_readout zext32 (readsReport_touchY (by decide)) fun _ => rfl
  | rdBatt => exact answersFromReport_of_readout zext32 readsReport_battery fun _ => rfl
  | rdChg =>
    exact answersFromReport_of_readout (fun code => zext32 (classifyCharge code).bits) readsReport_chargeCode
      fun _ => rfl
  | rdChgraw => exact answersFromReport_of_readout zext32 readsReport_chargeCode fun _ => rfl
  | rdCap => exact answersFromReport_of_readout zext32 readsReport_capacity fun _ => rfl
  | rdPeriph => exact answersFromReport_of_readout zext32 readsReport_periph fun _ => rfl
  | _ => exact answersFromReport_of_readout zext32 (readsReport_payload (by decide)) fun _ => rfl

/-! ## States that hold the same since the last `CLR` -/

/-- Two report units hold the same bytes up to `LEN`, and the same registers; a decoded report is whole. Bytes above
`LEN`, which earlier reports left, may differ. -/
structure State.SameStored (s₁ s₂ : State) : Prop where
  cfg : s₁.cfg = s₂.cfg
  len : s₁.len = s₂.len
  res : s₁.res = s₂.res
  trn : s₁.trn = s₂.trn
  errb : s₁.errb = s₂.errb
  bytes : ∀ a, a < s₁.len.toNat → s₁.rb.read a = s₂.rb.read a
  ok_full : s₁.res = .ok → reportLen ≤ s₁.len.toNat

theorem State.SameStored.answer {s₁ s₂ : State} (h : s₁.SameStored s₂) (r₁ r₂ : Response) :
    (s₁.answer r₁).SameStored (s₂.answer r₂) := { h with }

theorem State.SameStored.clearResult {s₁ s₂ : State} (h : s₁.SameStored s₂) :
    s₁.clearResult.SameStored s₂.clearResult :=
  { h with res := rfl, trn := rfl, errb := rfl, ok_full := nofun }

/-- A decoded report is the same in both, whole and of the same transport. -/
theorem State.SameStored.sameReport {s₁ s₂ : State} (h : s₁.SameStored s₂) (hok : s₁.res = .ok) : s₁.SameReport s₂ :=
  ⟨h.cfg, h.trn, fun a ha => h.bytes a (ha.trans_le (h.ok_full hok))⟩

/-- A `CLR` leaves nothing stored, whatever stood there before. -/
theorem sameStored_afterClr {s₁ s₂ : State} (hcfg : s₁.cfg = s₂.cfg) : s₁.afterClr.SameStored s₂.afterClr where
  cfg := hcfg
  len := rfl
  res := rfl
  trn := rfl
  errb := rfl
  bytes := nofun
  ok_full := nofun

theorem State.SameStored.full_eq {s₁ s₂ : State} (h : s₁.SameStored s₂) : s₁.full = s₂.full := by
  simp only [State.full, h.len]

theorem State.SameStored.storeByte {s₁ s₂ : State} (h : s₁.SameStored s₂) (b : Byte) :
    (s₁.storeByte b).SameStored (s₂.storeByte b) := by
  cases hfull : s₁.full with
  | true => rwa [State.storeByte_full hfull, State.storeByte_full (h.full_eq ▸ hfull)]
  | false =>
    obtain ⟨hlen₁, hread₁⟩ := State.storeByte_room (State.not_full_iff.mp hfull) b
    obtain ⟨hlen₂, hread₂⟩ := State.storeByte_room (State.not_full_iff.mp (h.full_eq ▸ hfull)) b
    exact
      { cfg := by simpa using h.cfg
        len := BitVec.eq_of_toNat_eq (by rw [hlen₁, hlen₂, h.len])
        res := by simpa using h.res
        trn := by simpa using h.trn
        errb := by simpa using h.errb
        bytes := fun a ha => by
          rw [hread₁, hread₂, ← h.len]
          split
          next => rfl
          next hne => exact h.bytes a (by omega)
        ok_full := fun hok => by
          have := h.ok_full (by simpa using hok)
          omega }

/-- What a `DEC` finds is stored: the length, and the discriminator when the report is whole. -/
theorem State.SameStored.decOutcome_eq {s₁ s₂ : State} (h : s₁.SameStored s₂) : decOutcome s₁ = decOutcome s₂ := by
  rcases Nat.lt_or_ge s₁.len.toNat reportLen with hlt | hge
  · rw [decOutcome_truncated hlt, decOutcome_truncated (h.len ▸ hlt), h.len]
  · have hdisc : s₁.rb.read 0 = s₂.rb.read 0 := h.bytes 0 (lt_of_lt_of_le (by decide) hge)
    simp only [decOutcome, h.full_eq, hdisc, h.cfg, h.len]

theorem reportLen_le_of_decOutcome_ok {s : State} (hok : (decOutcome s).res = .ok) : reportLen ≤ s.len.toNat := by
  by_contra hshort
  rw [decOutcome_truncated (Nat.not_le.mp hshort)] at hok
  cases hok

theorem State.SameStored.afterDec {s₁ s₂ : State} (h : s₁.SameStored s₂) : s₁.afterDec.SameStored s₂.afterDec :=
  { h with
    res := congrArg DecOutcome.res h.decOutcome_eq
    trn := congrArg DecOutcome.trn h.decOutcome_eq
    errb := congrArg DecOutcome.errb h.decOutcome_eq
    ok_full := reportLen_le_of_decOutcome_ok }

theorem State.SameStored.statusWord_eq {s₁ s₂ : State} (h : s₁.SameStored s₂) : s₁.statusWord = s₂.statusWord := by
  simp only [State.statusWord, h.errb, h.trn, h.res, h.len]

/-- An accessor answers the same from states that hold the same, decoded or not. -/
theorem State.SameStored.whenDecoded {s₁ s₂ : State} (h : s₁.SameStored s₂) {v : State → Response}
    (hv : ReadsReport v) : ∃ r, s₁.whenDecoded (.next (s₁.answer (v s₁))) = .next (s₁.answer r) ∧
      s₂.whenDecoded (.next (s₂.answer (v s₂))) = .next (s₂.answer r) := by
  by_cases hok : s₁.res = .ok
  · refine ⟨v s₁, State.whenDecoded_ok hok _, ?_⟩
    rw [State.whenDecoded_ok (h.res ▸ hok), hv s₁ s₂ (h.sameReport hok)]
  · refine ⟨_, State.whenDecoded_not_ok hok _, ?_⟩
    rw [State.whenDecoded_not_ok (h.res ▸ hok), h.res]

/-- A command of the report unit answers the same from states that hold the same, and leaves such states. -/
theorem State.SameStored.exec_eq {i : Instr} {s₁ s₂ : State} (h : s₁.SameStored s₂) (hi : i.isDim = false) :
    ∃ t₁ t₂, exec i s₁ = .next t₁ ∧ exec i s₂ = .next t₂ ∧ t₁.rsp = t₂.rsp ∧ t₁.SameStored t₂ := by
  rcases isRd_or_control_of_not_isDim hi with hrd | rfl | ⟨b, rfl⟩ | rfl | rfl
  · obtain ⟨v, hv, hexec⟩ := answersFromReport_of_isRd hrd
    obtain ⟨r, hr₁, hr₂⟩ := h.whenDecoded hv
    exact ⟨_, _, (hexec s₁).trans hr₁, (hexec s₂).trans hr₂, rfl, h.answer r r⟩
  · exact ⟨_, _, exec_clr_next s₁, exec_clr_next s₂, rfl, sameStored_afterClr h.cfg⟩
  · exact ⟨_, _, exec_push_next b s₁, exec_push_next b s₂, rfl, (h.storeByte b).clearResult.answer _ _⟩
  · exact ⟨_, _, exec_dec_next s₁, exec_dec_next s₂, by simp only [State.afterDec_rsp, h.decOutcome_eq], h.afterDec⟩
  · exact ⟨_, _, exec_stat_next s₁, exec_stat_next s₂, by simp only [State.answer_rsp, h.statusWord_eq], h.answer _ _⟩

/-! ## The responses of a list of commands -/

theorem repliesOf_cons_next {i : Instr} {is : List Instr} {s t : State} (h : exec i s = .next t) :
    repliesOf (i :: is) s = t.rsp :: repliesOf is t := by
  rw [repliesOf, h]

/-- Every command is answered (30_encoding.md R66). -/
theorem length_repliesOf (is : List Instr) (s : State) : (repliesOf is s).length = is.length := by
  induction is generalizing s with
  | nil => rfl
  | cons i is ih =>
    obtain ⟨u, r, -, hexec⟩ := exec_updates i s
    rw [repliesOf_cons_next hexec, List.length_cons, List.length_cons, ih]

/-- Commands of the report unit answer the same, one after the other, from states that hold the same. -/
theorem State.SameStored.repliesOf_eq {is : List Instr} {s₁ s₂ : State} (h : s₁.SameStored s₂)
    (his : ∀ i ∈ is, i.isDim = false) : repliesOf is s₁ = repliesOf is s₂ := by
  induction is generalizing s₁ s₂ with
  | nil => rfl
  | cons i is ih =>
    obtain ⟨hi, hrest⟩ := List.forall_mem_cons.mp his
    obtain ⟨t₁, t₂, hexec₁, hexec₂, hrsp, ht⟩ := h.exec_eq hi
    rw [repliesOf_cons_next hexec₁, repliesOf_cons_next hexec₂, hrsp, ih ht hrest]

theorem isDim_of_isRd {i : Instr} (h : i.isRd = true) : i.isDim = false := by
  cases i with
  | mrst | mcls0 | mcls1 | mcls2 | mven | mpro | mcmb | mtest | mstat => cases h
  | _ => rfl

theorem length_decodeProgram (bs : List Byte) : (decodeProgram bs).length = bs.length + 2 := by
  simp [decodeProgram, loadProgram]

end Sys2Proof.Machine

namespace Sys2Proof.Proofs

open Sys2Proof.Machine

/-- Settles O44: the `CLR` that a call begins with makes any two states hold the same. -/
theorem callIsStateless : Obligations.CallIsStateless := by
  intro s₁ s₂ bs reads hcfg hreads
  have hdim : ∀ i ∈ bs.map .push ++ [.dec] ++ reads, i.isDim = false := by
    simp only [List.forall_mem_append, List.forall_mem_map, List.forall_mem_singleton]
    refine ⟨⟨fun _ _ => rfl, rfl⟩, fun i hi => ?_⟩
    rcases hreads i hi with hrd | rfl
    · exact isDim_of_isRd hrd
    · rfl
  refine ⟨?_, by rw [length_repliesOf, List.length_append, length_decodeProgram]⟩
  have hcall : decodeProgram bs ++ reads = .clr :: (bs.map .push ++ [.dec] ++ reads) := rfl
  rw [hcall, repliesOf_cons_next (exec_clr_next s₁), repliesOf_cons_next (exec_clr_next s₂),
    (sameStored_afterClr hcfg).repliesOf_eq hdim]
  rfl

end Sys2Proof.Proofs
end

section
/-! PROOFS. The transport and the byte fields of a decoded report (41_scalar_fields.md R79 to R86). -/

namespace Sys2Proof.Machine

/-! ## Readouts -/

/-- Before a successful decode a readout raises `F_NOT_DECODED` with `RES`. -/
theorem State.readout_not_ok {s : State} (h : s.res ≠ .ok) (v : RspData) :
    s.readout v = .next (s.answer ⟨.fNotDecoded, s.res.bits.setWidth 32⟩) :=
  State.whenDecoded_not_ok h _

/-- A command that is a readout answers its value from a decoded report, and `F_NOT_DECODED` otherwise. -/
theorem exec_of_readout {i : Instr} {s : State} {v : RspData} (h : exec i s = s.readout v) :
    (s.res = .ok → exec i s = .next (s.answer ⟨.ok, v⟩)) ∧
    (s.res ≠ .ok → exec i s = .next (s.answer ⟨.fNotDecoded, s.res.bits.setWidth 32⟩)) :=
  ⟨fun hok => h.trans (State.readout_ok hok v), fun hne => h.trans (State.readout_not_ok hne v)⟩

/-- `TRN` reads the transport register and no byte of the buffer (41_scalar_fields.md R79). -/
theorem exec_rdTrn (s : State) : exec .rdTrn s = s.readout (zext32 s.trn.bit) := rfl

/-- A decoded report's transport is answered as its one bit. -/
theorem exec_rdTrn_ok {s : State} {t : Transport} (hok : s.res = .ok) (ht : s.trn = t) :
    exec .rdTrn s = .next (s.answer ⟨.ok, zext32 t.bit⟩) := by
  rw [exec_rdTrn, State.readout_ok hok, ht]

/-! ## The transport of a sound decoded state (10_state.md R20) -/

theorem State.Sound.trn_usb_iff {s : State} (hs : s.Sound) (hok : s.res = .ok) :
    s.trn = .usb ↔ s.rb.read 0 = s.cfg.discUsb := by
  rw [hs.trn_eq hok]
  split_ifs with husb <;> simp [husb]

theorem State.Sound.trn_bluetooth_iff {s : State} (hs : s.Sound) (hok : s.res = .ok) :
    s.trn = .bluetooth ↔ s.rb.read 0 = s.cfg.discBt := by
  refine ⟨hs.ok_bluetooth hok, fun hbt => ?_⟩
  rw [hs.trn_eq hok, if_neg (hbt ▸ s.cfg.discBt_ne_discUsb)]

/-! ## A sound state with a decoded Bluetooth report -/

theorem State.Sound.afterClr {s : State} (hs : s.Sound) : s.afterClr.Sound := hs.rewind_clearResult.answer _

theorem State.Sound.afterPush {s : State} (hs : s.Sound) (b : Byte) : (s.afterPush b).Sound :=
  (hs.storeByte_clearResult b).answer _

theorem State.Sound.afterDec {s : State} (hs : s.Sound) : s.afterDec.Sound :=
  (hs.setResult (State.resultFits_decOutcome hs.len_le)).answer _

theorem State.Sound.loaded {s : State} (hs : s.Sound) (bs : List Byte) : (s.loaded bs).Sound := by
  induction bs using List.reverseRecOn with
  | nil => exact hs.afterClr
  | append_singleton bs b ih => exact s.loaded_concat bs b ▸ ih.afterPush b

/-- A Bluetooth report under the standard parameters: its discriminator, and 0 everywhere else. -/
def bluetoothReport : List Byte := 0x31#8 :: List.replicate 63 0x00#8

/-- The state after decoding `bluetoothReport` from reset. -/
def bluetoothDecoded : State := (State.reset.loaded bluetoothReport).afterDec

/-- The hypotheses of TransportReadout's last clause can be met with a Bluetooth report. -/
theorem bluetoothDecoded_sound :
    bluetoothDecoded.Sound ∧ bluetoothDecoded.res = .ok ∧ bluetoothDecoded.trn = .bluetooth := by
  refine ⟨((State.sound_resetWith _).loaded _).afterDec, ?_⟩
  have hlen : reportLen ≤ (State.reset.loaded bluetoothReport).len.toNat := by
    rw [State.loaded_len]
    decide
  have hdisc : (State.reset.loaded bluetoothReport).rb.read 0 = 0x31#8 :=
    State.loaded_read _ (by decide) rfl
  rw [bluetoothDecoded, State.afterDec_res, State.afterDec_trn,
    decOutcome_bluetooth hlen (by rw [hdisc, State.loaded_cfg]; rfl)]
  exact ⟨rfl, rfl⟩

end Sys2Proof.Machine

namespace Sys2Proof.Proofs

open Sys2Proof.Machine

/-- Settles O18: a readout of the transport register, which a sound decoded state ties to the discriminator. -/
theorem transportReadout : Obligations.TransportReadout :=
  ⟨rfl, fun s => ⟨exec_rdTrn_ok, exec_rdTrn_ok, (exec_of_readout (exec_rdTrn s)).2,
    fun hs hok => ⟨hs.trn_usb_iff hok, hs.trn_bluetooth_iff hok⟩⟩⟩

/-- Settles O19: each of the seven is a readout of its payload byte, which stands one place higher in the buffer
(00_scope.md R10). -/
theorem byteFieldReadouts : Obligations.ByteFieldReadouts := by
  intro p hp
  have hfield : encode p.1 = p.2.1 ∧ ∀ s, exec p.1 s = s.readout (zext32 (s.rb.read p.2.2)) := by
    simp only [List.mem_cons, List.not_mem_nil, or_false] at hp
    rcases hp with rfl | rfl | rfl | rfl | rfl | rfl | rfl <;> exact ⟨rfl, fun _ => rfl⟩
  obtain ⟨hword, hexec⟩ := hfield
  exact ⟨hword, fun s => exec_of_readout (hexec s)⟩

end Sys2Proof.Proofs
end

section
/-! PROOFS. The buttons region of a decoded report (42_buttons.md R87 to R106): the D-pad nibble, the fifteen flags, and
the names the parameters give them. -/

namespace Sys2Proof

/-! ## Admitted name tables (00_scope.md R7) -/

/-- A list cut in two is a reordering of what its two parts are reorderings of. -/
theorem perm_append_of_take_drop {α : Type} {l xs ys : List α} {n : Nat} (hfront : (l.take n).Perm xs)
    (hback : (l.drop n).Perm ys) : l.Perm (xs ++ ys) := by
  simpa only [List.take_append_drop] using hfront.append hback

/-- `BTN_MAP` places each of the fifteen button names once (42_buttons.md R88). -/
theorem Config.btnMap_perm (c : Config) :
    c.btnMap.Perm [.square, .cross, .circle, .triangle, .l1, .r1, .l2b, .r2b, .create, .options, .l3, .r3, .home,
      .tpclick, .micbtn] := by
  have h := c.isAdmitted
  simp only [Params.admitted, Params.btnMapOK, Bool.and_eq_true, List.isPerm_iff] at h
  obtain ⟨⟨⟨-, ⟨hface, hshoulder⟩, hsystem⟩, -⟩, -⟩ := h
  exact perm_append_of_take_drop hface (perm_append_of_take_drop hshoulder (by rwa [List.drop_drop]))

/-- The clauses of `DPAD_NAMES`: the eight directions in some order, then "centered/none" (42_buttons.md R89). -/
theorem Config.dpadNames_clauses (c : Config) :
    (c.dpadNames.take 8).Perm [.north, .northEast, .east, .southEast, .south, .southWest, .west, .northWest] ∧
    c.dpadNames.drop 8 = [.centered] := by
  have h := c.isAdmitted
  simp only [Params.admitted, Params.dpadNamesOK, Bool.and_eq_true, beq_iff_eq, List.isPerm_iff] at h
  obtain ⟨⟨-, hnames⟩, -⟩ := h
  exact hnames

/-- `DPAD_NAMES` holds each of the nine direction names once. -/
theorem Config.dpadNames_perm (c : Config) :
    c.dpadNames.Perm [.north, .northEast, .east, .southEast, .south, .southWest, .west, .northWest, .centered] := by
  obtain ⟨hcompass, hcentered⟩ := c.dpadNames_clauses
  exact perm_append_of_take_drop hcompass (hcentered ▸ .refl _)

end Sys2Proof

namespace Sys2Proof.Machine

/-! ## Bits of the buttons region (42_buttons.md R87) -/

/-- Region byte `j` stands in the buffer at `BTN_B1_OFF + j`, one place above its payload offset (00_scope.md R10). -/
theorem State.regionByte_eq_read (s : State) {j : Nat} (hj : 0 < j) :
    s.regionByte j = s.rb.read (s.cfg.btnB1Off + j) := by
  rw [State.regionByte, State.payload, show s.cfg.btnB1Off + (j - 1) + 1 = s.cfg.btnB1Off + j by omega]

theorem lowNibble_toNat (b : Byte) : (lowNibble b).toNat = (b &&& 0x0F#8).toNat := by
  simp only [lowNibble, BitVec.extractLsb'_toNat, BitVec.toNat_and, Nat.shiftRight_zero]
  exact (Nat.and_two_pow_sub_one_eq_mod b.toNat 4).symm

/-- Zero-extending the low nibble is masking the byte. -/
theorem zext32_lowNibble (b : Byte) : zext32 (lowNibble b) = (b &&& 0x0F#8).setWidth 32 := by
  apply BitVec.eq_of_toNat_eq
  rw [zext32, BitVec.toNat_setWidth, BitVec.toNat_setWidth, lowNibble_toNat]

theorem flagBit_eq_ofBool (b : Byte) (n : Nat) : flagBit b n = BitVec.ofBool (b.getLsbD n) := by
  apply BitVec.eq_of_getLsbD_eq
  intro k hk
  obtain rfl : k = 0 := Nat.lt_one_iff.mp hk
  simp [flagBit]

theorem zext32_ofBool (pressed : Bool) : zext32 (BitVec.ofBool pressed) = if pressed then 1#32 else 0#32 := by
  cases pressed <;> rfl

/-- A flag is answered as 1 or 0, the bit of its byte in the buffer. -/
theorem State.zext32_buttonFlag (s : State) {j : Nat} (hj : 0 < j) (n : Nat) :
    zext32 (s.buttonFlag j n) = if (s.rb.read (s.cfg.btnB1Off + j)).getLsbD n then 1#32 else 0#32 := by
  rw [State.buttonFlag, s.regionByte_eq_read hj, flagBit_eq_ofBool, zext32_ofBool]

/-- The D-pad nibble is answered as the masked first byte of the region. -/
theorem State.zext32_dpadNibble (s : State) :
    zext32 s.dpadNibble = (s.rb.read (s.cfg.btnB1Off + 1) &&& 0x0F#8).setWidth 32 := by
  rw [State.dpadNibble, s.regionByte_eq_read Nat.one_pos, zext32_lowNibble]

theorem State.dpadNibble_toNat (s : State) :
    s.dpadNibble.toNat = (s.rb.read (s.cfg.btnB1Off + 1) &&& 0x0F#8).toNat := by
  rw [State.dpadNibble, s.regionByte_eq_read Nat.one_pos, lowNibble_toNat]

/-! ## Flags -/

/-- The command is the readout of bit `n` of region byte `j`. -/
def ReadsFlag (i : Instr) (j n : Nat) : Prop := ∀ s, exec i s = s.readout (zext32 (s.buttonFlag j n))

/-- All that a command which reads a flag does, before and after a successful decode. -/
theorem ReadsFlag.exec_eq {i : Instr} {j n : Nat} (h : ReadsFlag i j n) (hj : 0 < j) (s : State) :
    (s.res = .ok → exec i s = .next (s.answer ⟨.ok,
      if (s.rb.read (s.cfg.btnB1Off + j)).getLsbD n then 1#32 else 0#32⟩)) ∧
    (s.res ≠ .ok → exec i s = .next (s.answer ⟨.fNotDecoded, s.res.bits.setWidth 32⟩)) :=
  exec_of_readout ((h s).trans (by rw [s.zext32_buttonFlag hj]))

/-- The select codes from 0x0C read the fifteen flags in the order of their positions (30_encoding.md R62). -/
theorem exists_flag_of_position {p : Nat} (hp : p < 15) :
    ∃ i, decodeSelect (BitVec.ofNat 8 (0x0C + p)) = .ok i ∧ ReadsFlag i (flagPosition p).1 (flagPosition p).2 := by
  interval_cases p <;> exact ⟨_, rfl, fun _ => rfl⟩

theorem buttonPosition_lt (c : Config) (b : Button) : buttonPosition c b < 15 := by
  have hmem : b ∈ c.btnMap := c.btnMap_perm.mem_iff.mpr (by cases b <;> decide)
  have hlen : c.btnMap.length = 15 := c.btnMap_perm.length_eq
  exact hlen ▸ List.idxOf_lt_length_of_mem hmem

/-- The flag at a button's position is answered as 1 when the button is pressed and 0 otherwise. -/
theorem State.zext32_flag_of_button (s : State) (b : Button) :
    zext32 (s.buttonFlag (flagPosition (buttonPosition s.cfg b)).1 (flagPosition (buttonPosition s.cfg b)).2) =
      if s.pressed b then 1#32 else 0#32 := by
  rw [State.pressed, State.buttonFlag, flagBit_eq_ofBool, zext32_ofBool]
  cases (s.regionByte _).getLsbD _ <;> rfl

/-! ## The D-pad -/

/-- `DPAD` answers by its nibble whenever a report is decoded (42_buttons.md R90). -/
theorem exec_rdDpad_eq (s : State) :
    exec .rdDpad s = s.whenDecoded (.next (s.answer (dpadResponse s.dpadNibble))) := by
  rw [exec_rdDpad, dpadResponse]
  split_ifs <;> rfl

theorem exec_rdDpad_ok {s : State} (h : s.res = .ok) :
    exec .rdDpad s = .next (s.answer (dpadResponse s.dpadNibble)) := by
  rw [exec_rdDpad_eq, State.whenDecoded_ok h]

theorem exec_rdDpad_not_ok {s : State} (h : s.res ≠ .ok) :
    exec .rdDpad s = .next (s.answer ⟨.fNotDecoded, s.res.bits.setWidth 32⟩) := by
  rw [exec_rdDpad_eq, State.whenDecoded_not_ok h]

theorem dpadResponse_of_direction {nibble : BitVec 4} (h : nibble.toNat ≤ 8) :
    dpadResponse nibble = ⟨.ok, zext32 nibble⟩ := if_pos h

theorem dpadResponse_of_invalid {nibble : BitVec 4} (h : 9 ≤ nibble.toNat) :
    dpadResponse nibble = ⟨.fDpadInvariant, zext32 nibble⟩ := if_neg (by omega)

/-- `DPAD` answers `OK` with the nibble or not at all. -/
theorem eq_zext32_of_dpadResponse_ok {nibble : BitVec 4} {v : RspData} (h : dpadResponse nibble = ⟨.ok, v⟩) :
    v = zext32 nibble := by
  unfold dpadResponse at h
  split_ifs at h <;> cases h
  rfl

/-- `DPADRAW` reads out the nibble without classifying it (42_buttons.md R91). -/
theorem exec_rdDpadraw (s : State) : exec .rdDpadraw s = s.readout (zext32 s.dpadNibble) := rfl

/-- An accessor leaves every accessor's response as it was (40_control_ops.md R74). -/
theorem rsp_eq_after_accessor {i j : Instr} {s t u v : State} (hi : i.isRd = true) (hj : j.isRd = true)
    (ht : exec j s = .next t) (hu : exec i s = .next u) (hv : exec i t = .next v) : v.rsp = u.rsp := by
  obtain ⟨q, -, hexecj⟩ := exec_accessor_answers j hj
  obtain ⟨r, hr, hexeci⟩ := exec_accessor_answers i hi
  rw [hexecj] at ht
  rw [hexeci] at hu hv
  cases ht
  cases hu
  cases hv
  exact congrArg some (hr _ s rfl ⟨rfl, rfl, rfl, rfl, rfl⟩)

/-! ## Direction names (42_buttons.md R89) -/

/-- A direction's code is its place in `DPAD_NAMES`, one of nine. -/
theorem exists_code_of_direction (c : Config) (d : Direction) :
    ∃ code : BitVec 4, code.toNat ≤ 8 ∧ directionName c code = some d := by
  have hmem : d ∈ c.dpadNames := c.dpadNames_perm.mem_iff.mpr (by cases d <;> decide)
  have hlen : c.dpadNames.length = 9 := c.dpadNames_perm.length_eq
  have hlt : c.dpadNames.idxOf d < c.dpadNames.length := List.idxOf_lt_length_of_mem hmem
  have hcode : (BitVec.ofNat 4 (c.dpadNames.idxOf d)).toNat = c.dpadNames.idxOf d :=
    Nat.mod_eq_of_lt (by omega)
  exact ⟨BitVec.ofNat 4 (c.dpadNames.idxOf d), by omega, by rw [directionName, hcode, List.getElem?_idxOf hmem]⟩

/-- No two codes name one direction, since `DPAD_NAMES` repeats no name. -/
theorem directionName_inj {c : Config} {d : Direction} {k k' : BitVec 4} (h : directionName c k = some d)
    (h' : directionName c k' = some d) : k' = k := by
  have hnodup : c.dpadNames.Nodup := c.dpadNames_perm.nodup_iff.mpr (by decide)
  obtain ⟨hlt, -⟩ := List.getElem?_eq_some_iff.mp h'
  exact BitVec.eq_of_toNat_eq ((List.getElem?_inj hlt hnodup).mp (h'.trans h.symm))

theorem directionName_above {c : Config} {code : BitVec 4} (h : 8 < code.toNat) : directionName c code = none := by
  have hlen : c.dpadNames.length = 9 := c.dpadNames_perm.length_eq
  exact List.getElem?_eq_none (by omega)

theorem directionName_eight (c : Config) : directionName c 8#4 = some .centered := by
  obtain ⟨-, hcentered⟩ := c.dpadNames_clauses
  have hlast : (c.dpadNames.drop 8)[0]? = some .centered := by rw [hcentered]; rfl
  rwa [List.getElem?_drop] at hlast

end Sys2Proof.Machine

namespace Sys2Proof.Proofs

open Sys2Proof.Machine

/-- Settles O24: a button's position is one of fifteen, and each position's select code reads the flag there. -/
theorem namedButtonIsReadByItsSelectCode : Obligations.NamedButtonIsReadByItsSelectCode := by
  intro s b hok
  obtain ⟨i, hselect, hflag⟩ := exists_flag_of_position (buttonPosition_lt s.cfg b)
  refine ⟨i, hselect, ?_⟩
  rw [hflag s, State.readout_ok hok, s.zext32_flag_of_button b]
  rfl

/-- Settles O25: `DPAD_NAMES` holds nine different names, every direction among them, and "centered/none" last. -/
theorem directionCodesAreNamedBijectively : Obligations.DirectionCodesAreNamedBijectively := by
  refine fun c => ⟨fun d => ?_, fun _ => directionName_above, directionName_eight c⟩
  obtain ⟨code, hle, hname⟩ := exists_code_of_direction c d
  exact ⟨code, hle, hname, fun _ hname' => directionName_inj hname hname'⟩

/-- Settles O20: `DPAD` answers by the value of its nibble, and the answer is all it writes. -/
theorem dpadClassifiesTheNibble : Obligations.DpadClassifiesTheNibble := by
  refine ⟨rfl, rfl, fun s => ⟨fun hok hle => ?_, fun hok hge => ?_, exec_rdDpad_not_ok, ?_⟩⟩
  · rw [← s.dpadNibble_toNat] at hle
    rw [exec_rdDpad_ok hok, dpadResponse_of_direction hle, s.zext32_dpadNibble]
    rfl
  · rw [← s.dpadNibble_toNat] at hge
    rw [exec_rdDpad_ok hok, dpadResponse_of_invalid hge, s.zext32_dpadNibble]
    rfl
  · exact fun i t u v hi ht hu hv => rsp_eq_after_accessor hi rfl ht hu hv

/-- Settles O21: `DPADRAW` is the readout of the nibble, which is what `DPAD` answers when it answers `OK`. -/
theorem dpadRawReturnsTheNibble : Obligations.DpadRawReturnsTheNibble := by
  refine ⟨rfl, fun s => ?_⟩
  obtain ⟨hraw, hnotDecoded⟩ := exec_of_readout (exec_rdDpadraw s)
  refine ⟨fun hok => ?_, hnotDecoded, fun t u v ht hrsp hu => ?_⟩
  · rw [hraw hok, s.zext32_dpadNibble]
    rfl
  · by_cases hok : s.res = .ok
    · rw [exec_rdDpad_ok hok] at ht
      rw [hraw hok] at hu
      cases ht
      cases hu
      rw [eq_zext32_of_dpadResponse_ok (Option.some.inj hrsp)]
      rfl
    · rw [exec_rdDpad_not_ok hok] at ht
      cases ht
      cases hrsp

/-- Settles O22: each of the four is the readout of its bit of region byte 1. -/
theorem faceButtonFlags : Obligations.FaceButtonFlags := by
  intro p hp
  have hfield : encode p.1 = p.2.1 ∧ ReadsFlag p.1 1 p.2.2 := by
    simp only [List.mem_cons, List.not_mem_nil, or_false] at hp
    rcases hp with rfl | rfl | rfl | rfl <;> exact ⟨rfl, fun _ => rfl⟩
  obtain ⟨hword, hflag⟩ := hfield
  exact ⟨hword, hflag.exec_eq Nat.one_pos⟩

/-- Settles O23: each of the eleven is the readout of its bit of region byte 2 or 3. -/
theorem laterRegionByteFlags : Obligations.LaterRegionByteFlags := by
  intro p hp
  have hfield : encode p.1 = p.2.1 ∧ 0 < p.2.2.1 ∧ ReadsFlag p.1 p.2.2.1 p.2.2.2 := by
    simp only [List.mem_cons, List.not_mem_nil, or_false] at hp
    rcases hp with rfl | rfl | rfl | rfl | rfl | rfl | rfl | rfl | rfl | rfl | rfl <;>
      exact ⟨rfl, Nat.zero_lt_succ _, fun _ => rfl⟩
  obtain ⟨hword, hbyte, hflag⟩ := hfield
  exact ⟨hword, hflag.exec_eq hbyte⟩

end Sys2Proof.Proofs
end

section
/-! PROOFS. The motion readouts of a decoded report (43_motion.md R107 to R114): the six signed components and the sensor
timestamp, as numbers whose digits are the bytes of the buffer (20_memory.md R36). -/

namespace Sys2Proof.Machine

/-! ## Bytes side by side -/

/-- A number below another one's shift does not overlap it, so their bits stand side by side. -/
theorem or_shiftLeft_eq_append {m n : Nat} (w : Nat) (hi : BitVec m) (lo : BitVec n) :
    lo.setWidth w ||| hi.setWidth w <<< n = (hi ++ lo).setWidth w := by
  ext k hk
  simp only [BitVec.getElem_or, BitVec.getElem_shiftLeft, BitVec.getElem_setWidth, BitVec.getLsbD_append]
  by_cases hlow : k < n
  · simp [hlow]
  · simp [hlow, BitVec.getLsbD_of_ge lo k (by omega)]

/-- `LE16(k)` is its two bytes side by side, the one at the higher offset on top. -/
theorem State.le16_eq_append (s : State) (k : Nat) : s.le16 k = s.rb.read (k + 2) ++ s.rb.read (k + 1) :=
  (or_shiftLeft_eq_append 16 (s.payload (k + 1)) (s.payload k)).trans (BitVec.setWidth_eq _)

/-- `LE32(k)` is its four bytes side by side, the one at the highest offset on top. -/
theorem State.le32_eq_append (s : State) (k : Nat) :
    s.le32 k = s.rb.read (k + 4) ++ (s.rb.read (k + 3) ++ (s.rb.read (k + 2) ++ s.rb.read (k + 1))) := by
  rw [State.le32]
  iterate 3 rw [or_shiftLeft_eq_append]
  exact BitVec.setWidth_eq _

/-! ## As numbers -/

/-- A byte is negative as a signed number when its high bit is set. -/
theorem byte_toInt (b : Byte) : b.toInt = (b.toNat : Int) - if 0x80 ≤ b.toNat then 256 else 0 := by
  rw [BitVec.toInt_eq_toNat_cond]
  split_ifs <;> omega

/-- The sign of a 16-bit readout is the sign of its high byte, and widening to 32 bits keeps it
(30_encoding.md R64). -/
theorem State.toInt_sext32_le16 (s : State) (k : Nat) :
    (sext32 (s.le16 k)).toInt = ((s.rb.read (k + 1)).toNat : Int) + 256 * (s.rb.read (k + 2)).toNat -
      (if 0x80 ≤ (s.rb.read (k + 2)).toNat then 65536 else 0) := by
  have hpair : (s.le16 k).toInt = 256 * (s.rb.read (k + 2)).toInt + (s.rb.read (k + 1)).toNat := by
    rw [s.le16_eq_append, BitVec.toInt_append]
    rfl
  rw [sext32, BitVec.toInt_signExtend_of_le (by decide), hpair, byte_toInt]
  split_ifs <;> omega

/-- A timestamp keeps its value in the answer, which is as wide (43_motion.md R114). -/
theorem State.toNat_zext32_le32 (s : State) (k : Nat) :
    (zext32 (s.le32 k)).toNat = (s.rb.read (k + 1)).toNat + 256 * (s.rb.read (k + 2)).toNat +
      65536 * (s.rb.read (k + 3)).toNat + 16777216 * (s.rb.read (k + 4)).toNat := by
  rw [zext32, BitVec.setWidth_eq, s.le32_eq_append]
  simp only [toNat_append_eq_add]
  omega

/-- `TS` is the readout of the four bytes at `OFF_TS` (43_motion.md R114). -/
theorem exec_rdTs (s : State) : exec .rdTs s = s.readout (zext32 (s.le32 s.cfg.offTs)) := rfl

/-- A readout answers with its own value, so whatever holds of the value holds of an answer. -/
theorem exec_of_readout_with {i : Instr} {s : State} {v : RspData} {P : RspData → Prop}
    (h : exec i s = s.readout v) (hv : P v) :
    (s.res = .ok → ∃ u, exec i s = .next (s.answer ⟨.ok, u⟩) ∧ P u) ∧
    (s.res ≠ .ok → exec i s = .next (s.answer ⟨.fNotDecoded, s.res.bits.setWidth 32⟩)) := by
  obtain ⟨hok, hne⟩ := exec_of_readout h
  exact ⟨fun hdec => ⟨v, hok hdec, hv⟩, hne⟩

end Sys2Proof.Machine

namespace Sys2Proof.Proofs

open Sys2Proof.Machine

/-- Settles O26: each of the six is the sign-extended readout of the two bytes at its payload offset. -/
theorem motionReadoutsAreSignedLittleEndian : Obligations.MotionReadoutsAreSignedLittleEndian := by
  intro p hp
  have hfield : encode p.1 = p.2.1 ∧ ∀ s, exec p.1 s = s.readout (sext32 (s.le16 (p.2.2 s.cfg))) := by
    simp only [List.mem_cons, List.not_mem_nil, or_false] at hp
    rcases hp with rfl | rfl | rfl | rfl | rfl | rfl <;> exact ⟨rfl, fun _ => rfl⟩
  obtain ⟨hword, hexec⟩ := hfield
  exact ⟨hword, fun s => exec_of_readout_with (hexec s) (s.toInt_sext32_le16 _)⟩

/-- Settles O27: `TS` is the readout of four bytes side by side, each a digit in base 256. -/
theorem timestampIsLittleEndian : Obligations.TimestampIsLittleEndian :=
  ⟨rfl, fun s => exec_of_readout_with (exec_rdTs s) (s.toNat_zext32_le32 _)⟩

end Sys2Proof.Proofs
end

section
/-! PROOFS. The touchpad readouts of a decoded report (44_touchpad.md R116 to R124): the contact byte of each point, and
the two 12-bit coordinates packed into its other three. -/

namespace Sys2Proof.Machine

/-! ## The contact byte -/

/-- A byte's high bit is clear when the byte is below 0x80. -/
theorem not_flagBit_seven (b : Byte) : ~~~ flagBit b 7 = BitVec.ofBool (decide (b.toNat < 0x80)) := by
  have hhigh : b.getLsbD 7 = decide (0x80 ≤ b.toNat) := b.msb_eq_getLsbD_last.symm.trans b.msb_eq_decide
  rw [flagBit_eq_ofBool, BitVec.not_ofBool, hhigh]
  simp only [← decide_not, Nat.not_le]

/-- A point is active when the high bit of its contact byte is clear, the inverted polarity of
44_touchpad.md R116. -/
theorem State.zext32_touchActive (s : State) (n : Nat) :
    zext32 (s.touchActive n) =
      if (s.rb.read (s.cfg.offTouch + 4 * n + 1)).toNat < 0x80 then 1#32 else 0#32 := by
  rw [State.touchActive, not_flagBit_seven, zext32_ofBool]
  simp only [decide_eq_true_eq]
  rfl

/-- The contact id is the byte with its high bit masked off, whether or not the point is active
(44_touchpad.md R118). -/
theorem State.zext32_touchCount (s : State) (n : Nat) :
    zext32 (s.touchCount n) = (s.rb.read (s.cfg.offTouch + 4 * n + 1) &&& 0x7F#8).setWidth 32 := by
  have hmask : (s.touchCount n).toNat = (s.touchByte n 0 &&& 0x7F#8).toNat := by
    rw [State.touchCount, BitVec.extractLsb'_toNat, Nat.shiftRight_zero, BitVec.toNat_and]
    exact (Nat.and_two_pow_sub_one_eq_mod _ 7).symm
  apply BitVec.eq_of_toNat_eq
  rw [zext32, BitVec.toNat_setWidth, BitVec.toNat_setWidth, hmask]
  rfl

/-! ## The packed coordinates -/

theorem lowNibble_toNat_eq_mod (b : Byte) : (lowNibble b).toNat = b.toNat % 16 :=
  BitVec.extractLsb'_toNat 0 4 b

theorem highNibble_toNat_eq_div (b : Byte) : (highNibble b).toNat = b.toNat / 16 := by
  rw [highNibble, BitVec.extractLsb'_toNat, Nat.shiftRight_eq_div_pow]
  omega

/-- `X` is byte 1 with the low nibble of byte 2 on top. -/
theorem State.touchX_eq_append (s : State) (n : Nat) :
    s.touchX n = lowNibble (s.touchByte n 2) ++ s.touchByte n 1 :=
  (or_shiftLeft_eq_append 12 (lowNibble (s.touchByte n 2)) (s.touchByte n 1)).trans (BitVec.setWidth_eq _)

/-- `Y` is the high nibble of byte 2 with byte 3 on top. -/
theorem State.touchY_eq_append (s : State) (n : Nat) :
    s.touchY n = s.touchByte n 3 ++ highNibble (s.touchByte n 2) :=
  (or_shiftLeft_eq_append 12 (s.touchByte n 3) (highNibble (s.touchByte n 2))).trans (BitVec.setWidth_eq _)

/-- An answer holds a coordinate of 12 bits in full, unclamped (44_touchpad.md R125). -/
theorem State.toNat_zext32_touchX (s : State) (n : Nat) :
    (zext32 (s.touchX n)).toNat = (s.rb.read (s.cfg.offTouch + 4 * n + 2)).toNat +
      256 * ((s.rb.read (s.cfg.offTouch + 4 * n + 3)).toNat % 16) := by
  rw [zext32, BitVec.toNat_setWidth_of_le (by decide), s.touchX_eq_append, toNat_append_eq_add,
    lowNibble_toNat_eq_mod, Nat.add_comm, Nat.mul_comm]
  rfl

theorem State.toNat_zext32_touchY (s : State) (n : Nat) :
    (zext32 (s.touchY n)).toNat = (s.rb.read (s.cfg.offTouch + 4 * n + 3)).toNat / 16 +
      16 * (s.rb.read (s.cfg.offTouch + 4 * n + 4)).toNat := by
  rw [zext32, BitVec.toNat_setWidth_of_le (by decide), s.touchY_eq_append, toNat_append_eq_add,
    highNibble_toNat_eq_div, Nat.add_comm, Nat.mul_comm]
  rfl

end Sys2Proof.Machine

namespace Sys2Proof.Proofs

open Sys2Proof.Machine

/-- Settles O28: for each point, `TnACT` is the readout of the inverted high bit of byte 0 and `TnCNT` of the rest. -/
theorem touchContactReadouts : Obligations.TouchContactReadouts := by
  intro p hp
  have hfields : encode p.1 = p.2.1 ∧ encode p.2.2.1 = p.2.2.2.1 ∧
      ∀ s, exec p.1 s = s.readout (zext32 (s.touchActive p.2.2.2.2)) ∧
        exec p.2.2.1 s = s.readout (zext32 (s.touchCount p.2.2.2.2)) := by
    simp only [List.mem_cons, List.not_mem_nil, or_false] at hp
    rcases hp with rfl | rfl <;> exact ⟨rfl, rfl, fun _ => ⟨rfl, rfl⟩⟩
  obtain ⟨hactWord, hcntWord, hexec⟩ := hfields
  refine ⟨hactWord, hcntWord, fun s => ?_⟩
  obtain ⟨hact, hcnt⟩ := hexec s
  rw [s.zext32_touchActive] at hact
  rw [s.zext32_touchCount] at hcnt
  obtain ⟨hactOk, hactNot⟩ := exec_of_readout hact
  obtain ⟨hcntOk, hcntNot⟩ := exec_of_readout hcnt
  exact ⟨hactOk, hcntOk, fun hne => ⟨hactNot hne, hcntNot hne⟩⟩

/-- Settles O29: for each point, `TnX` and `TnY` are the readouts of the two halves of its last three bytes. -/
theorem touchCoordinateReadouts : Obligations.TouchCoordinateReadouts := by
  intro p hp
  have hfields : encode p.1 = p.2.1 ∧ encode p.2.2.1 = p.2.2.2.1 ∧
      ∀ s, exec p.1 s = s.readout (zext32 (s.touchX p.2.2.2.2)) ∧
        exec p.2.2.1 s = s.readout (zext32 (s.touchY p.2.2.2.2)) := by
    simp only [List.mem_cons, List.not_mem_nil, or_false] at hp
    rcases hp with rfl | rfl <;> exact ⟨rfl, rfl, fun _ => ⟨rfl, rfl⟩⟩
  obtain ⟨hxWord, hyWord, hexec⟩ := hfields
  refine ⟨hxWord, hyWord, fun s => ?_⟩
  obtain ⟨hx, hy⟩ := hexec s
  obtain ⟨hxOk, hxNot⟩ := exec_of_readout hx
  obtain ⟨hyOk, hyNot⟩ := exec_of_readout hy
  exact ⟨fun hok => ⟨_, _, hxOk hok, hyOk hok, s.toNat_zext32_touchX _, s.toNat_zext32_touchY _⟩,
    fun hne => ⟨hxNot hne, hyNot hne⟩⟩

end Sys2Proof.Proofs
end

section
/-! PROOFS. The status, tag and raw readouts of a decoded report (45_status.md R127 to R135): bytes answered as they
stand, the two nibbles of the battery byte, and the classification of the charging code. -/

namespace Sys2Proof

/-- Select codes above the table of R62 are reserved for every configuration (45_status.md R135). -/
theorem reservedAlways_of_select_above {f : Byte} (hf : 0x7F ≤ f.toNat) : reservedAlways (cmdWord 0x03#8 f) :=
  .inr (.inr (.inr (.inr (by simpa only [cmdOp_cmdWord, cmdArg_cmdWord] using ⟨rfl, .inr hf⟩))))

end Sys2Proof

namespace Sys2Proof.Machine

/-! ## The nibbles of the battery byte (45_status.md R127) -/

theorem State.toNat_chargeCode (s : State) : s.chargeCode.toNat =
    if s.cfg.chgHi then (s.rb.read (s.cfg.offBatt + 1)).toNat / 16
    else (s.rb.read (s.cfg.offBatt + 1)).toNat % 16 := by
  unfold State.chargeCode
  split_ifs
  · exact highNibble_toNat_eq_div _
  · exact lowNibble_toNat_eq_mod _

theorem State.toNat_capacity (s : State) : s.capacity.toNat =
    if s.cfg.chgHi then (s.rb.read (s.cfg.offBatt + 1)).toNat % 16
    else (s.rb.read (s.cfg.offBatt + 1)).toNat / 16 := by
  unfold State.capacity
  split_ifs
  · exact lowNibble_toNat_eq_mod _
  · exact highNibble_toNat_eq_div _

/-- An answer holds a field of up to 32 bits in full (30_encoding.md R64). -/
theorem toNat_zext32 {n : Nat} (hn : n ≤ 32) (v : BitVec n) : (zext32 v).toNat = v.toNat :=
  BitVec.toNat_setWidth_of_le hn

/-! ## The classification of the charging code (45_status.md R130) -/

/-- The six codes that name a variant of their own. -/
abbrev recognisedCharge (chg : Nat) : Prop := chg ∈ [0x0, 0x1, 0x2, 0xA, 0xB, 0xF]

theorem classifyCharge_of_not_recognised {code : BitVec 4} (h : ¬ recognisedCharge code.toNat) :
    classifyCharge code = .unknown code := by
  unfold classifyCharge
  split
  case h_7 => rfl
  all_goals exact absurd (by decide) h

/-- A recognised code is its own five-bit result. -/
theorem bits_classifyCharge_of_recognised {code : BitVec 4} (h : recognisedCharge code.toNat) :
    (classifyCharge code).bits = code.setWidth 5 := by
  have hcode : code ∈ [0x0#4, 0x1#4, 0x2#4, 0xA#4, 0xB#4, 0xF#4] := by
    simpa [← BitVec.toNat_inj] using h
  simp only [List.mem_cons, List.not_mem_nil, or_false] at hcode
  rcases hcode with rfl | rfl | rfl | rfl | rfl | rfl <;> rfl

/-- The marker bit of an unknown code stands on top of the code, which it leaves readable. -/
theorem ChargingStatus.bits_unknown_eq_append (code : BitVec 4) :
    (ChargingStatus.unknown code).bits = 1#1 ++ code :=
  calc 0x10#5 ||| code.setWidth 5 = code.setWidth 5 ||| (1#1).setWidth 5 <<< 4 := BitVec.or_comm _ _
    _ = (1#1 ++ code).setWidth 5 := or_shiftLeft_eq_append 5 1#1 code
    _ = 1#1 ++ code := BitVec.setWidth_eq _

/-- `CHG` answers a recognised code itself, and any other with bit 4 set. -/
theorem zext32_bits_classifyCharge (code : BitVec 4) : zext32 (classifyCharge code).bits =
    if recognisedCharge code.toNat then BitVec.ofNat 32 code.toNat else BitVec.ofNat 32 (16 + code.toNat) := by
  have hlt := code.isLt
  apply BitVec.eq_of_toNat_eq
  rw [toNat_zext32 (by decide)]
  split_ifs with h
  · rw [bits_classifyCharge_of_recognised h, BitVec.toNat_setWidth_of_le (by decide), BitVec.toNat_ofNat]
    omega
  · rw [classifyCharge_of_not_recognised h, ChargingStatus.bits_unknown_eq_append, toNat_append_eq_add,
      BitVec.toNat_ofNat, BitVec.toNat_ofNat]
    omega

/-! ## What the status accessors read -/

theorem exec_rdBatt (s : State) : exec .rdBatt s = s.readout (zext32 s.battery) := rfl

theorem exec_rdChg (s : State) : exec .rdChg s = s.readout (zext32 (classifyCharge s.chargeCode).bits) := rfl

theorem exec_rdChgraw (s : State) : exec .rdChgraw s = s.readout (zext32 s.chargeCode) := rfl

theorem exec_rdCap (s : State) : exec .rdCap s = s.readout (zext32 s.capacity) := rfl

theorem exec_rdPeriph (s : State) : exec .rdPeriph s = s.readout (zext32 (s.payload s.cfg.offPeriph)) := rfl

end Sys2Proof.Machine

namespace Sys2Proof.Proofs

open Sys2Proof.Machine

/-- Settles O31: `CHGRAW` and `CAP` are the readouts of the two nibbles, and `CHG_HI` says which is which. -/
theorem batteryNibbleReadouts : Obligations.BatteryNibbleReadouts := by
  refine ⟨rfl, rfl, fun s => ?_⟩
  obtain ⟨hchgOk, hchgNot⟩ := exec_of_readout (exec_rdChgraw s)
  obtain ⟨hcapOk, hcapNot⟩ := exec_of_readout (exec_rdCap s)
  refine ⟨fun hok => ⟨_, _, hchgOk hok, hcapOk hok, ?_⟩, fun hne => ⟨hchgNot hne, hcapNot hne⟩⟩
  rw [toNat_zext32 (by decide), toNat_zext32 (by decide), s.toNat_chargeCode, s.toNat_capacity]
  exact ⟨fun hhi => by simp [hhi], fun hlo => by simp [hlo]⟩

/-- Settles O32: `CHG` is the readout of the classification, which keeps the code in its low four bits. -/
theorem chargeClassificationKeepsTheCode : Obligations.ChargeClassificationKeepsTheCode := by
  refine ⟨rfl, fun s => ?_, rfl, rfl, rfl, rfl, rfl, rfl, fun _ h => classifyCharge_of_not_recognised h⟩
  obtain ⟨hanswer, hnotDecoded⟩ := exec_of_readout (exec_rdChg s)
  rw [zext32_bits_classifyCharge, s.toNat_chargeCode] at hanswer
  refine ⟨fun hok chg hchg => ?_, hnotDecoded⟩
  rw [← hchg] at hanswer
  constructor
  · intro hknown
    rw [if_pos hknown] at hanswer
    exact hanswer hok
  · intro hunknown
    rw [if_neg hunknown] at hanswer
    exact hanswer hok

/-- Settles O30: `BATT` and `PERIPH` are the readouts of the bytes at their two offsets. -/
theorem statusByteReadouts : Obligations.StatusByteReadouts := by
  refine ⟨rfl, rfl, fun s => ?_⟩
  obtain ⟨hbattOk, hbattNot⟩ := exec_of_readout (exec_rdBatt s)
  obtain ⟨hperiphOk, hperiphNot⟩ := exec_of_readout (exec_rdPeriph s)
  exact ⟨fun hok => ⟨hbattOk hok, hperiphOk hok⟩, fun hne => ⟨hbattNot hne, hperiphNot hne⟩⟩

/-- Settles O33: each of the eight is the readout of its byte of the tag. -/
theorem tagByteReadouts : Obligations.TagByteReadouts := by
  intro p hp
  have hfield : encode p.1 = p.2.1 ∧ ∀ s, exec p.1 s = s.readout (zext32 (s.rb.read p.2.2)) := by
    simp only [List.mem_cons, List.not_mem_nil, or_false] at hp
    rcases hp with rfl | rfl | rfl | rfl | rfl | rfl | rfl | rfl <;> exact ⟨rfl, fun _ => rfl⟩
  obtain ⟨hword, hexec⟩ := hfield
  exact ⟨hword, fun s => exec_of_readout (hexec s)⟩

/-- Settles O34: the accessor in place `k` of the list is the readout of `P(k)`, and the selects after the last one
decode to nothing. -/
theorem rawReadoutsReturnEveryPayloadByte : Obligations.RawReadoutsReturnEveryPayloadByte := by
  refine ⟨fun k i hi => ?_, fun s f rest hf hcmds => step_of_reservedAlways hcmds (reservedAlways_of_select_above hf)⟩
  have hfield : encode i = BitVec.ofNat 16 (0x0340 + k) ∧ ∀ s, exec i s = s.readout (zext32 (s.payload k)) := by
    obtain ⟨hk, rfl⟩ := List.getElem?_eq_some_iff.mp hi
    have hlt : k < 63 := hk
    interval_cases k <;> exact ⟨rfl, fun _ => rfl⟩
  obtain ⟨hword, hexec⟩ := hfield
  exact ⟨hword, fun s => exec_of_readout (hexec s)⟩

end Sys2Proof.Proofs
end

section
/-! PROOFS. The matcher's commands, one by one (46_matcher.md R138 to R145): the state each leaves with the unit
present, the word it answers without it, and what it is for the record to match. -/

namespace Sys2Proof

/-- An operand byte stands in the low half of its word (30_encoding.md R59). -/
theorem cmdWord_eq_add (op arg : Byte) : cmdWord op arg = cmdWord op 0x00#8 + arg.setWidth 16 := by
  apply BitVec.eq_of_toNat_eq
  have hop := op.isLt
  have harg := arg.isLt
  rw [BitVec.toNat_add, BitVec.toNat_setWidth, toNat_cmdWord, toNat_cmdWord, BitVec.toNat_ofNat]
  omega

/-- There are three class tags (46_matcher.md R140). -/
theorem reservedAlways_of_class {k : Byte} (hk : 3 ≤ k.toNat) : reservedAlways (cmdWord 0x11#8 k) :=
  .inr (.inr (.inr (.inl (by simpa only [cmdOp_cmdWord, cmdArg_cmdWord] using ⟨rfl, hk⟩))))

/-! ## The ID literals (46_matcher.md R137) -/

theorem length_of_isIdLiteral {t : List Byte} (h : isIdLiteral t = true) : t.length = 4 := by
  simp only [isIdLiteral, Bool.and_eq_true, beq_iff_eq] at h
  exact h.1

theorem Config.length_idLiterals (c : Config) : c.vidStr.length = 4 ∧ c.pidStr.length = 4 := by
  have hadm := c.isAdmitted
  simp only [Params.admitted, Params.literalsOK, Bool.and_eq_true] at hadm
  obtain ⟨-, ⟨hvid, hpid⟩, -⟩ := hadm
  exact ⟨length_of_isIdLiteral hvid, length_of_isIdLiteral hpid⟩

end Sys2Proof

namespace Sys2Proof.Machine

/-! ## The words the unit answers and does not answer -/

/-- Without the unit each of its commands answers `F_ILLEGAL_CMD` with its word (46_matcher.md R149). -/
theorem exec_dim_absent {i : Instr} {s : State} (hi : i.isDim = true) (habsent : s.cfg.hasDim = false) :
    exec i s = .next (s.answer ⟨.fIllegalCmd, (encode i).setWidth 32⟩) := by
  obtain ⟨f, v, -, -, hexec⟩ := exec_whenDim i hi
  rw [hexec, State.whenDim_absent habsent]

theorem exec_mrst {s : State} (hdim : s.cfg.hasDim = true) :
    exec .mrst s = .next ((s.beginRecord .other).clearScan.answer ⟨.ok, 0#32⟩) :=
  State.whenDim_present hdim ..

theorem exec_mcls {s : State} (hdim : s.cfg.hasDim = true) (k : DevClass) :
    exec k.mcls s = .next ((s.beginRecord k).answer ⟨.ok, 0#32⟩) := by
  cases k <;> exact State.whenDim_present hdim ..

theorem exec_mven {s : State} (hdim : s.cfg.hasDim = true) (c : Byte) :
    exec (.mven c) s = .next ((s.appendVen c).answer ⟨.ok, 0#32⟩) :=
  State.whenDim_present hdim ..

theorem exec_mpro {s : State} (hdim : s.cfg.hasDim = true) (c : Byte) :
    exec (.mpro c) s = .next ((s.appendPro c).answer ⟨.ok, 0#32⟩) :=
  State.whenDim_present hdim ..

theorem exec_mcmb {s : State} (hdim : s.cfg.hasDim = true) (c : Byte) :
    exec (.mcmb c) s = .next ((s.appendCmb c).answer ⟨.ok, 0#32⟩) :=
  State.whenDim_present hdim ..

theorem exec_mstat {s : State} (hdim : s.cfg.hasDim = true) :
    exec .mstat s = .next (s.answer ⟨.ok, s.dimStatusWord⟩) :=
  State.whenDim_present hdim ..

/-- The fields of the word a test answers (46_matcher.md R144). -/
theorem testWord_fields (idx : BitVec 16) (m : Bool) :
    (testWord idx m).extractLsb' 16 16 = idx ∧ (testWord idx m).extractLsb' 1 15 = 0#15 ∧
      (testWord idx m).extractLsb' 0 1 = BitVec.ofBool m :=
  ⟨BitVec.extractLsb'_append_eq_left,
    (BitVec.extractLsb'_append_eq_of_add_le (by decide)).trans BitVec.extractLsb'_append_eq_left,
    (BitVec.extractLsb'_append_eq_of_add_le (by decide)).trans BitVec.extractLsb'_append_eq_right⟩

/-! ## The match predicate (46_matcher.md R138) -/

/-- A string register of length `n` equals a literal, in length and in every byte. -/
def RegisterEquals (m : Memory) (n : Nat) (lit : List Byte) : Prop := n = lit.length ∧ m.bytes lit.length = lit

theorem registerEquals_iff_read {m : Memory} {n : Nat} {lit : List Byte} :
    RegisterEquals m n lit ↔ n = lit.length ∧ ∀ k, k < lit.length → lit[k]? = some (m.read k) := by
  refine and_congr_right fun _ => ⟨fun h k hk => ?_, fun h => List.ext_getElem? fun k => ?_⟩
  · have hread := m.getElem?_bytes lit.length k
    rwa [h, if_pos hk] at hread
  · rw [Memory.getElem?_bytes]
    split_ifs with hk
    · exact (h k hk).symm
    · exact (List.getElem?_eq_none (Nat.not_lt.mp hk)).symm

theorem State.splitMatches_iff (s : State) :
    s.splitMatches = true ↔
      RegisterEquals s.ven s.vlen.toNat s.cfg.vidStr ∧ RegisterEquals s.pro s.plen.toNat s.cfg.pidStr := by
  obtain ⟨hvid, hpid⟩ := s.cfg.length_idLiterals
  simp only [State.splitMatches, RegisterEquals, hvid, hpid, Bool.and_eq_true, decide_eq_true_eq, beq_iff_eq, and_assoc]

theorem State.combinedMatches_iff (s : State) :
    s.combinedMatches = true ↔ RegisterEquals s.cmb s.clen s.cfg.cmbStr := by
  rw [State.combinedMatches, Bool.and_eq_true, decide_eq_true_eq, beq_iff_eq]
  rfl

/-- The record matches when its class is right and one of the two identity forms equals its literals. -/
theorem State.recordMatches_iff (s : State) :
    s.recordMatches = true ↔ (s.cls = .input ∨ s.cls = .hid) ∧
      ((RegisterEquals s.ven s.vlen.toNat s.cfg.vidStr ∧ RegisterEquals s.pro s.plen.toNat s.cfg.pidStr) ∨
        RegisterEquals s.cmb s.clen s.cfg.cmbStr) := by
  rw [State.recordMatches, Bool.and_eq_true, Bool.or_eq_true, State.splitMatches_iff, State.combinedMatches_iff,
    State.isCandidate, Bool.or_eq_true, beq_iff_eq, beq_iff_eq]

end Sys2Proof.Machine

namespace Sys2Proof.Proofs

open Sys2Proof.Machine

/-- Settles O52: each command appends to its own register, as the laws of the three appends say. -/
theorem stringCommandsAppendOneByte : Obligations.StringCommandsAppendOneByte := by
  intro c
  refine ⟨cmdWord_eq_add 0x12#8 c, cmdWord_eq_add 0x13#8 c, cmdWord_eq_add 0x14#8 c,
    fun s => ⟨?mven, ?mpro, ?mcmb, ?absent⟩⟩
  case mven =>
    intro hdim
    refine ⟨(s.appendVen c).ven, (s.appendVen c).vlen, ?_, s.appendVen_spec c⟩
    rw [exec_mven hdim, s.appendVen_eta c]
    rfl
  case mpro =>
    intro hdim
    refine ⟨(s.appendPro c).pro, (s.appendPro c).plen, ?_, s.appendPro_spec c⟩
    rw [exec_mpro hdim, s.appendPro_eta c]
    rfl
  case mcmb =>
    intro hdim
    refine ⟨(s.appendCmb c).cmb, (s.appendCmb c).clen, ?_, s.appendCmb_spec c⟩
    rw [exec_mcmb hdim, s.appendCmb_eta c]
    rfl
  case absent =>
    intro habsent i hi
    have hdim : i.isDim = true := by
      simp only [List.mem_cons, List.not_mem_nil, or_false] at hi
      rcases hi with rfl | rfl | rfl <;> rfl
    exact exec_dim_absent hdim habsent

/-- Settles O53: the state after a test, the match predicate byte by byte, and the layout of the answered word. -/
theorem mtestEvaluatesTheRecord : Obligations.MtestEvaluatesTheRecord := by
  refine ⟨rfl, fun s hdim => ?present, fun s habsent => exec_dim_absent rfl habsent,
    fun _ _ _ harg hcmds => step_of_reservedAlways hcmds (reservedAlways_of_operand (by decide) harg)⟩
  case present =>
    obtain ⟨hidx, hzero, hbit⟩ := testWord_fields s.cidx s.recordMatches
    refine ⟨s.recordMatches, testWord s.cidx s.recordMatches, countUp s.cidx,
      if s.recordMatches then countUp s.mcnt else s.mcnt, exec_mtest hdim, ?holds, hidx, hzero, hbit,
      countUp_toNat s.cidx, fun hm => ?counted, fun hm => ?kept⟩
    case holds =>
      obtain ⟨hvid, hpid⟩ := s.cfg.length_idLiterals
      simp only [State.recordMatches_iff, registerEquals_iff_read, hvid, hpid, Params.ccap, and_assoc]
    case counted => rw [if_pos hm, countUp_toNat]
    case kept => rw [hm]; rfl

/-- Settles O50: a scan begins with an empty record and cleared scan registers. -/
theorem mrstBeginsAScan : Obligations.MrstBeginsAScan :=
  ⟨rfl, fun _ hdim => exec_mrst hdim, fun _ habsent => exec_dim_absent rfl habsent,
    fun _ _ _ harg hcmds => step_of_reservedAlways hcmds (reservedAlways_of_operand (by decide) harg)⟩

/-- Settles O51: each of the three words is the command of its class tag, and the other tags are reserved. -/
theorem mclsBeginsARecord : Obligations.MclsBeginsARecord := by
  refine ⟨fun p hp => ?_, fun _ _ _ hk hcmds => step_of_reservedAlways hcmds (reservedAlways_of_class hk)⟩
  have hcls : encode p.1 = p.2.1 ∧ p.1 = p.2.2.mcls ∧ p.1.isDim = true := by
    simp only [List.mem_cons, List.not_mem_nil, or_false] at hp
    rcases hp with rfl | rfl | rfl <;> exact ⟨rfl, rfl, rfl⟩
  obtain ⟨hword, hinstr, hdim⟩ := hcls
  refine ⟨hword, fun s => ⟨fun hpresent => ?_, fun habsent => ?_⟩⟩
  · rw [hinstr]
    exact exec_mcls hpresent _
  · rw [← hword]
    exact exec_dim_absent hdim habsent

/-- Settles O54: the DIM status word is the two counters side by side. -/
theorem mstatReturnsTheScanCounters : Obligations.MstatReturnsTheScanCounters :=
  ⟨rfl, fun s hdim => ⟨s.dimStatusWord, exec_mstat hdim, BitVec.extractLsb'_append_eq_right,
      BitVec.extractLsb'_append_eq_left⟩,
    fun _ habsent => exec_dim_absent rfl habsent,
    fun _ _ _ harg hcmds => step_of_reservedAlways hcmds (reservedAlways_of_operand (by decide) harg)⟩

end Sys2Proof.Proofs
end

section
/-! PROOFS. The report unit does not see whether the matcher is there (46_matcher.md R149): its commands commute with
changing `HAS_DIM` alone. -/

namespace Sys2Proof

/-- The configuration with another `HAS_DIM`, which no check of a parameter set reads (00_scope.md R8). -/
def Config.withDim (c : Config) (b : Bool) : Config := ⟨{ c.toParams with hasDim := b }, c.isAdmitted⟩

/-- Configurations that differ in `HAS_DIM` alone. -/
theorem Config.eq_withDim {c d : Config} (h : d.toParams = { c.toParams with hasDim := d.hasDim }) :
    d = c.withDim d.hasDim := by
  cases d
  exact (Config.mk.injEq ..).mpr h

end Sys2Proof

namespace Sys2Proof.Machine

/-- The same state of a machine built with another `HAS_DIM`. -/
def State.withDim (s : State) (b : Bool) : State := { s with cfg := s.cfg.withDim b }

theorem State.storeByte_withDim (s : State) (a : Byte) (b : Bool) :
    (s.withDim b).storeByte a = (s.storeByte a).withDim b := by
  have hfull : (s.withDim b).full = s.full := rfl
  unfold State.storeByte
  rw [hfull]
  split <;> rfl

theorem decOutcome_withDim (s : State) (b : Bool) : decOutcome (s.withDim b) = decOutcome s := rfl

/-- An accessor's response to a decoded report is no matter of `HAS_DIM`. -/
theorem exec_accessor_withDim {i : Instr} (h : i.isRd = true) :
    ∃ v : State → Response, (∀ s, exec i s = s.whenDecoded (.next (s.answer (v s)))) ∧
      ∀ s b, v (s.withDim b) = v s := by
  cases i with
  | clr | push | dec | stat | mrst | mcls0 | mcls1 | mcls2 | mven | mpro | mcmb | mtest | mstat => cases h
  | rdDpad =>
    refine ⟨fun s => dpadResponse s.dpadNibble, fun s => ?_, fun _ _ => rfl⟩
    rw [exec_rdDpad]
    dsimp only [dpadResponse]
    split_ifs <;> rfl
  | _ => exact ⟨_, fun _ => rfl, fun _ _ => rfl⟩

/-- A command of the report unit leaves the same state and answers the same under either `HAS_DIM`. -/
theorem exec_withDim {i : Instr} {s t : State} (hi : i.isDim = false) (hexec : exec i s = .next t) (b : Bool) :
    exec i (s.withDim b) = .next (t.withDim b) := by
  rcases isRd_or_control_of_not_isDim hi with hrd | rfl | ⟨a, rfl⟩ | rfl | rfl
  · obtain ⟨v, hv, hcongr⟩ := exec_accessor_withDim hrd
    rw [hv] at hexec
    rw [hv, hcongr]
    by_cases hok : s.res = .ok
    · rw [State.whenDecoded_ok hok] at hexec
      cases hexec
      exact State.whenDecoded_ok (s := s.withDim b) hok _
    · rw [State.whenDecoded_not_ok hok] at hexec
      cases hexec
      exact State.whenDecoded_not_ok (s := s.withDim b) hok _
  · cases hexec
    rfl
  · cases hexec
    rw [exec_push_next, State.afterPush, State.storeByte_withDim]
    rfl
  · rw [exec_dec_next] at hexec
    cases hexec
    rw [exec_dec_next, State.afterDec, State.recordDec, decOutcome_withDim]
    rfl
  · cases hexec
    rfl

/-- No command writes the parameters (10_state.md R28). -/
theorem exec_cfg_eq {i : Instr} {s t : State} (hexec : exec i s = .next t) : t.cfg = s.cfg := by
  obtain ⟨u, r, hu, hnext⟩ := exec_updates i s
  rw [hnext] at hexec
  cases hexec
  exact hu.cfg_eq

end Sys2Proof.Machine

namespace Sys2Proof.Proofs

open Sys2Proof.Machine

/-- Settles O55: the unit's words are refused without it, and no other command reads `HAS_DIM`. -/
theorem absentMatcherAnswersIllegalCommand : Obligations.AbsentMatcherAnswersIllegalCommand := by
  refine ⟨fun i s hi habsent => exec_dim_absent hi habsent, fun i s t c hi hparams hexec => ?_⟩
  have hnext := exec_withDim hi hexec c.hasDim
  rw [State.withDim, State.withDim, exec_cfg_eq hexec, ← Config.eq_withDim hparams] at hnext
  exact hnext

end Sys2Proof.Proofs
end

section
/-! PROOFS. A whole `MCAND` (30_encoding.md R69; 46_matcher.md R138, R148): the record that its appends leave, from any
state, and what its `MTEST` finds. -/

namespace Sys2Proof.Machine

/-! ## String registers -/

/-- What a string register of `cap` bytes is after appending `bs` to it, begun empty: its length stops one past `cap`,
and its bytes are those of `bs` that fit (46_matcher.md R141 to R143). -/
structure HoldsString (m : Memory) (n cap : Nat) (bs : List Byte) : Prop where
  length_eq : n = min bs.length (cap + 1)
  bytes_eq : m.bytes (min bs.length cap) = bs.take cap

theorem holdsString_nil (m : Memory) (cap : Nat) : HoldsString m 0 cap [] := by
  constructor <;> simp [Memory.bytes]

theorem Memory.bytes_succ (m : Memory) (n : Nat) : m.bytes (n + 1) = m.bytes n ++ [m.read n] := by
  simp [Memory.bytes, List.range_succ]

theorem Memory.bytes_congr {m₁ m₂ : Memory} {n : Nat} (h : ∀ a, a < n → m₁.read a = m₂.read a) :
    m₁.bytes n = m₂.bytes n :=
  List.map_congr_left fun a ha => h a (List.mem_range.mp ha)

/-- One more byte: it is stored where there is room, and marks the string too long where there is none. -/
theorem HoldsString.append {m m' : Memory} {n n' cap : Nat} {bs : List Byte} {c : Byte} (h : HoldsString m n cap bs)
    (hroom : n < cap → n' = n + 1 ∧ ∀ a, m'.read a = if a = n then c else m.read a)
    (hlong : cap ≤ n → n' = cap + 1 ∧ m' = m) : HoldsString m' n' cap (bs ++ [c]) := by
  have hlen := h.length_eq
  have hbytes := h.bytes_eq
  have hlen' : (bs ++ [c]).length = bs.length + 1 := by simp
  by_cases hlt : bs.length < cap
  · obtain rfl : n = bs.length := by omega
    obtain ⟨hn', hread⟩ := hroom hlt
    have hold : m'.bytes bs.length = m.bytes bs.length :=
      Memory.bytes_congr fun a ha => by rw [hread, if_neg (Nat.ne_of_lt ha)]
    rw [Nat.min_eq_left hlt.le, List.take_of_length_le hlt.le] at hbytes
    refine ⟨by omega, ?_⟩
    rw [hlen', Nat.min_eq_left hlt, Memory.bytes_succ, hold, hbytes, hread, if_pos rfl,
      List.take_of_length_le (hlen'.trans_le hlt)]
  · obtain ⟨hn', rfl⟩ := hlong (by omega)
    refine ⟨by omega, ?_⟩
    rw [List.take_append_of_le_length (Nat.not_lt.mp hlt), ← hbytes]
    congr 1
    omega

/-- The register equals a literal of its capacity exactly when the appended string does: one that grew too long has a
length that no literal has. -/
theorem HoldsString.registerEquals_iff {m : Memory} {n : Nat} {lit bs : List Byte}
    (h : HoldsString m n lit.length bs) : RegisterEquals m n lit ↔ bs = lit := by
  have hlen := h.length_eq
  have hbytes := h.bytes_eq
  constructor
  · rintro ⟨hn, heq⟩
    have hbs : bs.length = lit.length := by omega
    rwa [hbs, Nat.min_self, heq, List.take_of_length_le hbs.le, eq_comm] at hbytes
  · rintro rfl
    rw [Nat.min_self, List.take_length] at hbytes
    exact ⟨by omega, hbytes⟩

/-! ## The record -/

/-- The state holds the candidate record of class `k` and strings `v`, `p`, `b` (46_matcher.md R140 to R143). -/
structure State.HoldsRecord (s : State) (cfg : Config) (k : DevClass) (v p b : List Byte) : Prop where
  cfg_eq : s.cfg = cfg
  cls_eq : s.cls = k
  ven : HoldsString s.ven s.vlen.toNat 4 v
  pro : HoldsString s.pro s.plen.toNat 4 p
  cmb : HoldsString s.cmb s.clen cfg.ccap b

theorem State.holdsRecord_beginRecord (s : State) (k : DevClass) : (s.beginRecord k).HoldsRecord s.cfg k [] [] [] :=
  ⟨rfl, rfl, holdsString_nil _ _, holdsString_nil _ _, holdsString_nil _ _⟩

section

variable {s : State} {cfg : Config} {k : DevClass} {v p b : List Byte}

theorem State.HoldsRecord.answer (h : s.HoldsRecord cfg k v p b) (r : Response) :
    (s.answer r).HoldsRecord cfg k v p b := { h with }

theorem State.HoldsRecord.appendVen (h : s.HoldsRecord cfg k v p b) (c : Byte) :
    (s.appendVen c).HoldsRecord cfg k (v ++ [c]) p b := by
  obtain ⟨hroom, hlong⟩ := s.appendVen_spec c
  rw [State.appendVen_eta]
  exact { h with ven := h.ven.append hroom fun hn => (hlong hn).imp_left (congrArg BitVec.toNat) }

theorem State.HoldsRecord.appendPro (h : s.HoldsRecord cfg k v p b) (c : Byte) :
    (s.appendPro c).HoldsRecord cfg k v (p ++ [c]) b := by
  obtain ⟨hroom, hlong⟩ := s.appendPro_spec c
  rw [State.appendPro_eta]
  exact { h with pro := h.pro.append hroom fun hn => (hlong hn).imp_left (congrArg BitVec.toNat) }

theorem State.HoldsRecord.appendCmb (h : s.HoldsRecord cfg k v p b) (c : Byte) :
    (s.appendCmb c).HoldsRecord cfg k v p (b ++ [c]) := by
  obtain ⟨hroom, hlong⟩ := s.appendCmb_spec c
  rw [h.cfg_eq] at hroom hlong
  rw [State.appendCmb_eta]
  exact { h with cmb := h.cmb.append hroom hlong }

/-- The predicate of R138, read off the strings of the record. -/
theorem State.HoldsRecord.recordMatches_iff (h : s.HoldsRecord cfg k v p b) :
    s.recordMatches = true ↔ k ≠ .other ∧ ((v = cfg.vidStr ∧ p = cfg.pidStr) ∨ b = cfg.cmbStr) := by
  obtain ⟨hvid, hpid⟩ := cfg.length_idLiterals
  have hven : RegisterEquals s.ven s.vlen.toNat cfg.vidStr ↔ v = cfg.vidStr :=
    HoldsString.registerEquals_iff (hvid ▸ h.ven)
  have hpro : RegisterEquals s.pro s.plen.toNat cfg.pidStr ↔ p = cfg.pidStr :=
    HoldsString.registerEquals_iff (hpid ▸ h.pro)
  have hcls : k = .input ∨ k = .hid ↔ k ≠ .other := by cases k <;> decide
  rw [State.recordMatches_iff, h.cfg_eq, h.cls_eq, hven, hpro, h.cmb.registerEquals_iff, hcls]

/-! ## The run -/

/-- A run of one append command over a list, by what holds after each byte. -/
theorem runCommands_appends {f : Byte → Instr} {P : List Byte → State → Prop}
    (hstep : ∀ bs c s, P bs s → ∃ t, exec (f c) s = .next t ∧ P (bs ++ [c]) t) {bs : List Byte} (more : List Byte)
    (h : P bs s) : ∃ t, runCommands (more.map f) s = some t ∧ P (bs ++ more) t := by
  induction more generalizing bs s with
  | nil => exact ⟨s, rfl, by rwa [List.append_nil]⟩
  | cons c more ih =>
    obtain ⟨u, hexec, hu⟩ := hstep bs c s h
    obtain ⟨t, hrun, ht⟩ := ih hu
    exact ⟨t, (runCommands_cons_next hexec).trans hrun, by rwa [List.append_assoc] at ht⟩

/-- The appends of a `MCAND` leave its record. -/
theorem State.HoldsRecord.runCommands_strings (h : s.HoldsRecord cfg k [] [] []) (hdim : cfg.hasDim = true)
    (v p b : List Byte) :
    ∃ t, runCommands (v.map .mven ++ p.map .mpro ++ b.map .mcmb) s = some t ∧ t.HoldsRecord cfg k v p b := by
  obtain ⟨t₁, hrun₁, ht₁⟩ := runCommands_appends (f := .mven) (P := fun v s => s.HoldsRecord cfg k v [] [])
    (fun _ c _ h => ⟨_, exec_mven (h.cfg_eq ▸ hdim) c, (h.appendVen c).answer _⟩) v h
  obtain ⟨t₂, hrun₂, ht₂⟩ := runCommands_appends (f := .mpro) (P := fun p s => s.HoldsRecord cfg k v p [])
    (fun _ c _ h => ⟨_, exec_mpro (h.cfg_eq ▸ hdim) c, (h.appendPro c).answer _⟩) p ht₁
  obtain ⟨t₃, hrun₃, ht₃⟩ := runCommands_appends (f := .mcmb) (P := fun b s => s.HoldsRecord cfg k v p b)
    (fun _ c _ h => ⟨_, exec_mcmb (h.cfg_eq ▸ hdim) c, (h.appendCmb c).answer _⟩) b ht₂
  refine ⟨t₃, ?_, ht₃⟩
  rw [runCommands_append, runCommands_append, hrun₁, Option.bind_some, hrun₂, Option.bind_some, hrun₃]

end

/-- A `MCAND` runs to the test of its record, whatever the state held before. -/
theorem runCommands_candidateProgram {s : State} (hdim : s.cfg.hasDim = true) (k : DevClass) (v p b : List Byte) :
    ∃ t : State, t.HoldsRecord s.cfg k v p b ∧ runCommands (candidateProgram k v p b) s = some t.tested := by
  obtain ⟨t, hrun, ht⟩ := ((s.holdsRecord_beginRecord k).answer ⟨.ok, 0#32⟩).runCommands_strings hdim v p b
  refine ⟨t, ht, ?_⟩
  rw [candidateProgram, runCommands_cons_next (exec_mcls hdim k), runCommands_append, hrun, Option.bind_some,
    runCommands_cons_next (exec_mtest (ht.cfg_eq ▸ hdim)), runCommands]

/-- Bit 0 of the word a test answers is its result (46_matcher.md R144). -/
theorem testWord_getLsbD_zero (idx : BitVec 16) (m : Bool) : (testWord idx m).getLsbD 0 = m := by
  obtain ⟨-, -, hbit⟩ := testWord_fields idx m
  simpa using congrArg (BitVec.getLsbD · 0) hbit

end Sys2Proof.Machine

namespace Sys2Proof.Proofs

open Sys2Proof.Machine

/-- Settles O56: the record that the appends leave decides the test. -/
theorem candidateMatchesByEitherForm : Obligations.CandidateMatchesByEitherForm := by
  intro s k v p c hdim
  obtain ⟨t, ht, hrun⟩ := runCommands_candidateProgram hdim k v p c
  refine ⟨t.tested, testWord t.cidx t.recordMatches, hrun, rfl, ?_, ?_⟩
  · rw [testWord_getLsbD_zero]
    rfl
  · rw [testWord_getLsbD_zero, ht.recordMatches_iff]

end Sys2Proof.Proofs
end

section
/-! PROOFS. The conditions and their causes (60_exceptions.md R151 to R161): the one response each cause makes, that
every other command answers `OK`, and that only `DEC` keeps a state change when it raises one. -/

namespace Sys2Proof.Machine

/-! ## The outcome of a `DEC` and of an accessor -/

/-- A `DEC` writes the result registers of its outcome and answers it, and nothing else. -/
theorem exec_dec_of_outcome {s : State} {res : Res} {trn : Transport} {errb : Byte} {r : Response}
    (h : decOutcome s = ⟨res, trn, errb, r⟩) : exec .dec s = .next ((s.setResult res trn errb).answer r) := by
  rw [exec_dec, State.recordDec, h]

/-- Before a successful decode every accessor raises `F_NOT_DECODED` with `RES` (60_exceptions.md R155). -/
theorem exec_accessor_not_ok {i : Instr} {s : State} (hrd : i.isRd = true) (hres : s.res ≠ .ok) :
    exec i s = .next (s.answer ⟨.fNotDecoded, s.res.bits.setWidth 32⟩) := by
  obtain ⟨v, hexec, -⟩ := exec_accessor i hrd
  rw [hexec, State.whenDecoded_not_ok hres]

theorem State.dpadNibble_toNat_eq_mod (s : State) :
    s.dpadNibble.toNat = (s.rb.read (s.cfg.btnB1Off + 1)).toNat % 16 :=
  lowNibble_toNat_eq_mod _

/-! ## Reserved words -/

/-- A word that does not decode is on a list of R63 that holds for every configuration, and is answered so
(60_exceptions.md R157). -/
theorem step_of_decode_error {s : State} {w : CmdWord} {rest : List CmdWord} {e : Reserved}
    (hcmds : s.cmds = w :: rest) (hdec : decode w = .error e) :
    step s = .next ((s.accept rest).answer ⟨.fIllegalCmd, w.setWidth 32⟩) :=
  step_of_reservedAlways hcmds (by simpa [hdec] using decode_isOk_iff w)

/-! ## Causes -/

/-- The causes of the five conditions, with the response each makes (60_exceptions.md R151, R153 to R157). The premises
hold the priority of R160: a short buffer comes before its discriminator, and a report that is not decoded before its
D-pad nibble. -/
inductive State.Raises (s : State) : Instr → Response → Prop
  | truncated (hlen : s.len.toNat < reportLen) : s.Raises .dec ⟨.eTruncated, zext32 s.len⟩
  | unknownTransport (hlen : reportLen ≤ s.len.toNat) (h01 : s.rb.read 0 ≠ 0x01#8) (h31 : s.rb.read 0 ≠ 0x31#8) :
    s.Raises .dec ⟨.eUnknownTransport, zext32 (s.rb.read 0)⟩
  | notDecoded {i : Instr} (hrd : i.isRd = true) (hres : s.res ≠ .ok) :
    s.Raises i ⟨.fNotDecoded, s.res.bits.setWidth 32⟩
  | dpadInvariant (hok : s.res = .ok) (hnibble : 9 ≤ s.dpadNibble.toNat) :
    s.Raises .rdDpad ⟨.fDpadInvariant, zext32 s.dpadNibble⟩
  | illegalCmd {i : Instr} (hdim : i.isDim = true) (habsent : s.cfg.hasDim = false) :
    s.Raises i ⟨.fIllegalCmd, (encode i).setWidth 32⟩

/-- A command with a cause answers that cause's response; `DEC` records its outcome first, and no other command writes
anything (60_exceptions.md R152). -/
theorem State.Raises.exec_eq {s : State} {i : Instr} {r : Response} (h : s.Raises i r) :
    exec i s = .next ((if i = .dec then s.recordDec else s).answer r) := by
  cases h with
  | truncated hlen => rw [if_pos rfl, exec_dec, decOutcome_truncated hlen]
  | unknownTransport hlen h01 h31 => rw [if_pos rfl, exec_dec, decOutcome_unknown hlen h01 h31]
  | notDecoded hrd hres =>
    rw [if_neg (by rintro rfl; cases hrd)]
    exact exec_accessor_not_ok hrd hres
  | dpadInvariant hok hnibble => rw [if_neg nofun, exec_rdDpad_ok hok, dpadResponse_of_invalid hnibble]
  | illegalCmd hdim habsent =>
    rw [if_neg (by rintro rfl; cases hdim)]
    exact exec_dim_absent hdim habsent

/-- The command answers `OK`. -/
def AnswersOk (i : Instr) (s : State) : Prop := ∃ u v, exec i s = .next (State.answer u ⟨.ok, v⟩)

theorem dec_answersOk_or_raises (s : State) : AnswersOk .dec s ∨ ∃ r, s.Raises .dec r := by
  rcases Nat.lt_or_ge s.len.toNat reportLen with hshort | hlen
  · exact .inr ⟨_, .truncated hshort⟩
  by_cases husb : s.rb.read 0 = s.cfg.discUsb
  · exact .inl ⟨_, _, exec_dec_of_outcome (decOutcome_usb hlen husb)⟩
  by_cases hbt : s.rb.read 0 = s.cfg.discBt
  · exact .inl ⟨_, _, exec_dec_of_outcome (decOutcome_bluetooth hlen hbt)⟩
  obtain ⟨h01, h31⟩ := s.cfg.ne_discriminators husb hbt
  exact .inr ⟨_, .unknownTransport hlen h01 h31⟩

theorem rdDpad_answersOk_or_raises {s : State} (hok : s.res = .ok) :
    AnswersOk .rdDpad s ∨ ∃ r, s.Raises .rdDpad r := by
  rcases Nat.lt_or_ge 8 s.dpadNibble.toNat with hinvalid | hdirection
  · exact .inr ⟨_, .dpadInvariant hok hinvalid⟩
  · refine .inl ⟨s, zext32 s.dpadNibble, ?_⟩
    rw [exec_rdDpad_ok hok, dpadResponse_of_direction hdirection]

theorem accessor_answersOk_or_raises {i : Instr} (hrd : i.isRd = true) (s : State) :
    AnswersOk i s ∨ ∃ r, s.Raises i r := by
  by_cases hok : s.res = .ok
  · by_cases hdpad : i = .rdDpad
    · subst hdpad
      exact rdDpad_answersOk_or_raises hok
    · obtain ⟨v, hexec⟩ := exec_readout i s hrd hdpad
      exact .inl ⟨s, v, hexec.trans (State.readout_ok hok v)⟩
  · exact .inr ⟨_, .notDecoded hrd hok⟩

/-- The causes are all there are: a command without one answers `OK` (60_exceptions.md R151). -/
theorem answersOk_or_raises (i : Instr) (s : State) : AnswersOk i s ∨ ∃ r, s.Raises i r := by
  cases hdim : i.isDim with
  | false =>
    rcases isRd_or_control_of_not_isDim hdim with hrd | rfl | ⟨b, rfl⟩ | rfl | rfl
    · exact accessor_answersOk_or_raises hrd s
    · exact .inl ⟨_, _, exec_clr_next s⟩
    · exact .inl ⟨_, _, exec_push_next b s⟩
    · exact dec_answersOk_or_raises s
    · exact .inl ⟨_, _, exec_stat_next s⟩
  | true =>
    cases hpresent : s.cfg.hasDim with
    | false => exact .inr ⟨_, .illegalCmd hdim hpresent⟩
    | true =>
      obtain ⟨f, v, -, -, hexec⟩ := exec_whenDim i hdim
      exact .inl ⟨f s, v s, by rw [hexec, State.whenDim_present hpresent, State.respond]⟩

section
variable {i : Instr} {s t : State} {r : Response}

/-- A command that answers a code other than `OK` has the cause of that response. -/
theorem raises_of_code_ne_ok (hexec : exec i s = .next t) (hrsp : t.rsp = some r) (hcode : r.code ≠ .ok) :
    s.Raises i r := by
  rcases answersOk_or_raises i s with ⟨u, v, hok⟩ | ⟨q, hq⟩
  · rw [hok] at hexec
    cases hexec
    cases hrsp
    exact absurd rfl hcode
  · rw [hq.exec_eq] at hexec
    cases hexec
    cases hrsp
    exact hq

/-- A condition's code is answered exactly when the condition has its cause. -/
theorem code_eq_iff_raises (hexec : exec i s = .next t) (hrsp : t.rsp = some r) {c : RspCode} (hc : c ≠ .ok) :
    r.code = c ↔ ∃ v, s.Raises i ⟨c, v⟩ := by
  constructor
  · rintro rfl
    exact ⟨r.data, raises_of_code_ne_ok hexec hrsp hc⟩
  · rintro ⟨v, h⟩
    rw [h.exec_eq] at hexec
    cases hexec
    cases hrsp
    rfl

end

end Sys2Proof.Machine

namespace Sys2Proof.Proofs

open Sys2Proof.Machine

/-- Settles O4: a word that R63 lists either does not decode, or decodes to a command of the absent unit. -/
theorem reservedWordAnswersIllegalCommand : Obligations.ReservedWordAnswersIllegalCommand := by
  refine fun s w rest hcmds hreserved => ⟨?_, rfl⟩
  rcases (reservedWord_iff s.cfg w).mp hreserved with halways | ⟨hopcode, habsent⟩
  · exact step_of_reservedAlways hcmds halways
  · cases hdec : decode w with
    | error e => exact step_of_decode_error hcmds hdec
    | ok i =>
      have hword : encode i = w := encode_of_decode hdec
      have hdim : i.isDim = true := (isDim_iff_dimOpcode i).mpr (hword ▸ hopcode)
      rw [step_eq_exec hcmds hdec, exec_dim_absent (s := s.accept rest) hdim habsent, hword]
      rfl

/-- Settles O14: what the dispatch common to the accessors answers before a decode (40_control_ops.md R74). -/
theorem accessorBeforeDecodeAnswersNotDecoded : Obligations.AccessorBeforeDecodeAnswersNotDecoded :=
  ⟨fun _ _ hrd hres => exec_accessor_not_ok hrd hres, rfl, rfl, rfl, rfl⟩

/-- Settles O36: the command has a cause, and what it leaves besides the response is told by whether it is `DEC`. -/
theorem conditionsChangeNothingButDecResults : Obligations.ConditionsChangeNothingButDecResults := by
  intro i s t r hexec hrsp hcode
  rw [(raises_of_code_ne_ok hexec hrsp hcode).exec_eq] at hexec
  cases hexec
  split
  next hdec => exact .inr ⟨hdec, rfl⟩
  next => exact .inl rfl

/-- Settles O37: each code is answered exactly when it has a cause, and each cause makes one code. -/
theorem eachConditionHasItsOneCause : Obligations.EachConditionHasItsOneCause := by
  intro i s t r hexec hrsp
  refine ⟨?truncated, ?unknown, ?notDecoded, ?dpad, ?illegal⟩
  all_goals rw [code_eq_iff_raises hexec hrsp (by decide)]
  case truncated =>
    constructor
    · rintro ⟨_, h⟩
      cases h with
      | truncated hlen => exact ⟨rfl, hlen⟩
    · rintro ⟨rfl, hlen⟩
      exact ⟨_, .truncated hlen⟩
  case unknown =>
    constructor
    · rintro ⟨_, h⟩
      cases h with
      | unknownTransport hlen h01 h31 => exact ⟨rfl, hlen, h01, h31⟩
    · rintro ⟨rfl, hlen, h01, h31⟩
      exact ⟨_, .unknownTransport hlen h01 h31⟩
  case notDecoded =>
    constructor
    · rintro ⟨_, h⟩
      cases h with
      | notDecoded hrd hres => exact ⟨hrd, hres⟩
    · rintro ⟨hrd, hres⟩
      exact ⟨_, .notDecoded hrd hres⟩
  case dpad =>
    rw [← s.dpadNibble_toNat_eq_mod]
    constructor
    · rintro ⟨_, h⟩
      cases h with
      | dpadInvariant hok hnibble => exact ⟨rfl, hok, hnibble⟩
    · rintro ⟨rfl, hok, hnibble⟩
      exact ⟨_, .dpadInvariant hok hnibble⟩
  case illegal =>
    constructor
    · rintro ⟨_, h⟩
      cases h with
      | illegalCmd hdim habsent => exact ⟨hdim, habsent⟩
    · rintro ⟨hdim, habsent⟩
      exact ⟨_, .illegalCmd hdim habsent⟩

/-- Settles O11: the four outcomes of a `DEC`, and that a failed one leaves every accessor undecoded. -/
theorem decChecksLengthThenTransport : Obligations.DecChecksLengthThenTransport :=
  ⟨rfl,
    fun _ => ⟨fun hlen => exec_dec_of_outcome (decOutcome_truncated hlen),
      fun hlen husb => exec_dec_of_outcome (decOutcome_usb hlen husb),
      fun hlen hbt => exec_dec_of_outcome (decOutcome_bluetooth hlen hbt),
      fun hlen h01 h31 => exec_dec_of_outcome (decOutcome_unknown hlen h01 h31)⟩,
    fun _ _ _ _ hres hrd => exec_accessor_not_ok hrd hres, rfl, rfl⟩

end Sys2Proof.Proofs
end

section
/-! PROOFS. Progress from every state, and the machine right after reset (70_reset_and_hazards.md R167 to R178). -/

namespace Sys2Proof.Machine

/-! ## Progress -/

/-- A step without a word waits (70_reset_and_hazards.md R169). -/
theorem step_of_no_command {s : State} (hcmds : s.cmds = []) : step s = .next s.idle := by
  simp only [step, hcmds]

/-- No command touches the words that wait behind it (20_memory.md R44). -/
theorem Updates.cmds_eq {i : Instr} {s u : State} (h : Updates i s u) : u.cmds = s.cmds := by
  cases h with
  | recordDec => rfl
  | _ => simp

/-- A step that takes a word, reserved or not, leaves the rest of the queue and one response. -/
theorem step_of_command {s : State} {w : CmdWord} {rest : List CmdWord} (hcmds : s.cmds = w :: rest) :
    ∃ u r, step s = .next (State.answer u r) ∧ u.cmds = rest := by
  cases hdec : decode w with
  | ok i =>
    obtain ⟨u, r, hu, hexec⟩ := exec_updates i (s.accept rest)
    exact ⟨u, r, (step_eq_exec hcmds hdec).trans hexec, hu.cmds_eq⟩
  | error e => exact ⟨s.accept rest, _, step_of_decode_error hcmds hdec, rfl⟩

/-- Codes 6 to 15 are never produced (30_encoding.md R67). -/
theorem RspCode.bits_le_five (c : RspCode) : c.bits.toNat ≤ 5 := by cases c <;> decide

/-! ## Reset -/

theorem State.statusWord_resetWith (c : Config) : (State.resetWith c).statusWord = 0#32 := by
  simp [State.statusWord, Res.bits, Transport.bit]

theorem State.dimStatusWord_resetWith (c : Config) : (State.resetWith c).dimStatusWord = 0#32 := by
  simp [State.dimStatusWord]

/-- The first test after reset finds the empty record, which is no candidate (46_matcher.md R138), at index 0. -/
theorem State.tested_resetWith (c : Config) :
    (State.resetWith c).tested = ((State.resetWith c).recordTest false).answer ⟨.ok, 0#32⟩ := by
  have hmatch : (State.resetWith c).recordMatches = false := rfl
  simp [State.tested, hmatch, testWord]

/-- After reset every command but `DEC` and the accessors answers 0, those that answer a status word or a test among
them (70_reset_and_hazards.md R169). -/
theorem exec_resetWith_ok {c : Config} {i : Instr} (hdec : i ≠ .dec) (hrd : i.isRd = false)
    (hpresent : i.isDim = true → c.hasDim = true) :
    ∃ u, exec i (State.resetWith c) = .next (State.answer u ⟨.ok, 0#32⟩) := by
  cases hdim : i.isDim with
  | false =>
    rcases isRd_or_control_of_not_isDim hdim with hrd' | rfl | ⟨b, rfl⟩ | rfl | rfl
    · exact nomatch hrd.symm.trans hrd'
    · exact ⟨_, exec_clr_next _⟩
    · exact ⟨_, exec_push_next b _⟩
    · exact absurd rfl hdec
    · exact ⟨_, State.statusWord_resetWith c ▸ exec_stat_next _⟩
  | true =>
    have hdimc : (State.resetWith c).cfg.hasDim = true := hpresent hdim
    cases i with
    | mrst => exact ⟨_, exec_mrst hdimc⟩
    | mcls0 => exact ⟨_, exec_mcls hdimc .other⟩
    | mcls1 => exact ⟨_, exec_mcls hdimc .input⟩
    | mcls2 => exact ⟨_, exec_mcls hdimc .hid⟩
    | mven b => exact ⟨_, exec_mven hdimc b⟩
    | mpro b => exact ⟨_, exec_mpro hdimc b⟩
    | mcmb b => exact ⟨_, exec_mcmb hdimc b⟩
    | mtest => exact ⟨_, State.tested_resetWith c ▸ exec_mtest hdimc⟩
    | mstat => exact ⟨_, State.dimStatusWord_resetWith c ▸ exec_mstat hdimc⟩
    | _ => cases hdim

end Sys2Proof.Machine

namespace Sys2Proof.Proofs

open Sys2Proof.Machine

/-- Settles O8: a step waits, or answers the word it takes. -/
theorem everyStepAnswersAndEveryCommandIsAnswered : Obligations.EveryStepAnswersAndEveryCommandIsAnswered := by
  intro s
  cases hcmds : s.cmds with
  | nil => exact ⟨s.idle, step_of_no_command hcmds, hcmds, fun h => absurd rfl h⟩
  | cons w rest =>
    obtain ⟨u, r, hstep, hrest⟩ := step_of_command hcmds
    exact ⟨u.answer r, hstep, hrest, fun _ => ⟨r, rfl, r.code.bits_le_five⟩⟩

/-- Settles O7: `idle` writes the response port alone. -/
theorem stepWithoutACommandWaits : Obligations.StepWithoutACommandWaits := fun _ hcmds => step_of_no_command hcmds

/-- Settles O48: the reset values, and the registers that `CLR` and `MRST` leave. -/
theorem resetValues : Obligations.ResetValues := fun _ =>
  ⟨⟨rfl, rfl, rfl, rfl, rfl, rfl⟩, ⟨rfl, rfl, rfl, rfl, rfl, rfl, rfl, rfl⟩,
    fun s => ⟨_, exec_clr_next s, rfl, rfl, rfl, rfl⟩,
    fun _ hdim => ⟨_, exec_mrst hdim, rfl, rfl, rfl, rfl, rfl, rfl, rfl⟩⟩

/-- Settles O49: each command at the reset values; the record that the test counts is empty. -/
theorem firstCommandAfterReset : Obligations.FirstCommandAfterReset := by
  refine fun c => ⟨?dec, fun i hrd => ?accessor, fun i hdec hrd hpresent => ?other, fun i hdim habsent => ?absent,
    fun hdim => ?test⟩
  case dec =>
    have hlen : (State.resetWith c).len.toNat < reportLen := by simp [reportLen]
    exact ⟨_, exec_dec_of_outcome (decOutcome_truncated hlen), rfl⟩
  case accessor => exact ⟨_, exec_accessor_not_ok hrd (by simp), rfl⟩
  case other =>
    obtain ⟨u, hexec⟩ := exec_resetWith_ok hdec hrd hpresent
    exact ⟨_, hexec, rfl⟩
  case absent => exact ⟨_, exec_dim_absent hdim habsent, rfl⟩
  case test => exact ⟨_, State.tested_resetWith c ▸ exec_mtest hdim, rfl, rfl, rfl⟩

end Sys2Proof.Proofs
end
